-- ==== Sys2Proof/Word.lean ====
section
/-! DEFINITION. The two widths of the machine (00_scope.md R10, R12): 8-bit data, 16-bit registers and addresses.
Values are unsigned bit vectors; bit 0 is the least significant. -/

namespace Sys2Proof

/-- An 8-bit value: a register half, a memory byte, an instruction byte (R10). -/
abbrev Byte := BitVec 8

/-- A 16-bit value: a register pair, SP, PC, an address (R10). -/
abbrev Word := BitVec 16

end Sys2Proof
end

