-- ==== Sys2Proof/Machine/BitOps.lean ====
section
/-! DEFINITION. BitOps (40_bitops_alu.md section 1): value-level helpers on bytes and words. -/

namespace Sys2Proof.Machine

/-- `compose(high, low)`, the `‖` of 00_scope.md R12 (40_bitops_alu.md R120). -/
def compose (high low : Byte) : Word := high ++ low

/-- `v[7:0]` of a word. -/
def lowByte (v : Word) : Byte := v.extractLsb' 0 8

/-- `v[15:8]` of a word. -/
def highByte (v : Word) : Byte := v.extractLsb' 8 8

/-- `zext_16`: a byte to a word with zero high byte (00_scope.md R13). -/
def zext16 (b : Byte) : Word := b.setWidth 16

/-- `sext_16`: "value stays unchanged if bit 7 is 0, else OR with 0xFF00" (40_bitops_alu.md R121). -/
def sext16 (b : Byte) : Word :=
  if b.getLsbD 7 then zext16 b ||| 0xFF00#16 else zext16 b

/-- `setbit(v, i)`; an index at or above the width changes nothing (40_bitops_alu.md R122). -/
def setbit {w : Nat} (v : BitVec w) (i : Nat) : BitVec w := v ||| (1#w <<< i)

/-- `clearbit(v, i)`; an index at or above the width changes nothing (40_bitops_alu.md R122). -/
def clearbit {w : Nat} (v : BitVec w) (i : Nat) : BitVec w := v &&& ~~~(1#w <<< i)

/-- `testbit(v, i)`, defined for an index inside the width only (40_bitops_alu.md R123, log 25). -/
def testbit {w : Nat} (v : BitVec w) (i : Fin w) : Bool := v.getLsbD i.val

/-- The low nibble of a byte as a number, for the half-carry rules (40_bitops_alu.md R125). -/
def nibble (v : Byte) : Nat := (v &&& 0x0F#8).toNat

end Sys2Proof.Machine
end

