-- ==== Sys2Proof/Config.lean ====
section
/-! DEFINITION. The parameters the spec leaves open (00_scope.md R11), each at its default, and the one free value.
`LAUNCH` is not here: every `Machine.State` is a launch state, and `Machine.State.reset` is the default one.
`CYC` is Machine/Cycles.lean. Operations that depend on a parameter take it as an argument, so both settings are
defined; the meanings use the settings below. -/

namespace Sys2Proof

/-- Which bits feed H and C of the signed-displacement add (R11 `SPD_FLAGS`, R134). -/
inductive SpdFlags where
  | byte
  | word
  deriving DecidableEq, Repr

/-- By how many bytes STOP advances PC (R11 `STOP_LEN`, R222). -/
inductive StopLen where
  | one
  | two
  deriving DecidableEq, Repr

/-- `STOP_LEN`, default 2. DESIGN CHOICE of the spec (D7, log 3); unsafe. -/
def Config.stopLen : StopLen := .two

/-- `HAS_ABS_A`: 0xEA and 0xFA are LD (nn),A and LD A,(nn), default true. DESIGN CHOICE of the spec (D4, log 2); unsafe. -/
def Config.hasAbsA : Bool := true

/-- `SPD_FLAGS`, default `byte`. DESIGN CHOICE of the spec (D13, log 4); unsafe. -/
def Config.spdFlags : SpdFlags := .byte

/-- `EXT_WRITES`, the addresses an external writer may change between transitions, default empty (R66, D20).
DESIGN CHOICE of the spec (log 6); unsafe where a rendering collaborator is present. -/
def Config.extWrites : List Word := []

/-- FREE VALUE (R66, 93_implementation_defined.md U14, log 6): what the external writer does at an address at its
`k`-th opportunity: nothing, or store this byte. The spec gives neither the moment nor the value. -/
opaque Config.externalWrite : Nat → Word → Option Byte

end Sys2Proof
end

