-- ==== Sys2Proof/Syntax.lean ====
section
/-! DEFINITION. The instructions: one constructor per row of opcode_table.json, and the operand tables they select from
(10_state.md R26 to R28, 30_encoding.md R91 to R93). Immediates are carried as the bytes of the instruction stream:
`n` and `d` are b1, `nn` is b2 ‖ b1 (30_encoding.md R86). The constructors with an operand stand first and the others
after them, each group in the table's order: compiled Lean gives a constructor with fields a tag below 245. -/

namespace Sys2Proof

/-- The 8-bit operand table `r`, indices 0 to 7; `ind` is index 6, the byte at HL (10_state.md R26). -/
inductive R8 where
  | b | c | d | e | h | l | ind | a
  deriving DecidableEq, Repr

/-- The 16-bit operand table `rp`, indices 0 to 3 (10_state.md R27). -/
inductive Rp where
  | bc | de | hl | sp
  deriving DecidableEq, Repr

/-- The 16-bit operand table `rf`, indices 0 to 3: AF stands in place of SP (10_state.md R28). -/
inductive Rf where
  | bc | de | hl | af
  deriving DecidableEq, Repr

/-- The condition table `cc`, indices 0 to 3 (30_encoding.md R91). -/
inductive Cc where
  | nz | z | nc | c
  deriving DecidableEq, Repr

/-- The ALU table `al`, indices 0 to 7 (30_encoding.md R92). -/
inductive AluOp where
  | add | adc | sub | sbc | and | xor | or | cp
  deriving DecidableEq, Repr

/-- The rotate table `rot`, indices 0 to 7 (30_encoding.md R93, D3, log 7). -/
inductive RotOp where
  | rlc | rrc | rl | rr | sla | sra | swap | srl
  deriving DecidableEq, Repr

/-- One constructor per row of opcode_table.json. Each constructor's docstring is the spec's spelling and its rule. -/
inductive Instr where
  /-- LD BC,nn (R225) -/
  | ldBcNn (nn : Word)
  /-- LD B,n (R239) -/
  | ldBN (n : Byte)
  /-- LD (nn),SP (R221) -/
  | ldIndNnSp (nn : Word)
  /-- LD C,n (R239) -/
  | ldCN (n : Byte)
  /-- LD DE,nn (R225) -/
  | ldDeNn (nn : Word)
  /-- LD D,n (R239) -/
  | ldDN (n : Byte)
  /-- JR d (R223) -/
  | jrD (d : Byte)
  /-- LD E,n (R239) -/
  | ldEN (n : Byte)
  /-- JR NZ,d (R224) -/
  | jrNzD (d : Byte)
  /-- LD HL,nn (R225) -/
  | ldHlNn (nn : Word)
  /-- LD H,n (R239) -/
  | ldHN (n : Byte)
  /-- JR Z,d (R224) -/
  | jrZD (d : Byte)
  /-- LD L,n (R239) -/
  | ldLN (n : Byte)
  /-- JR NC,d (R224) -/
  | jrNcD (d : Byte)
  /-- LD SP,nn (R225) -/
  | ldSpNn (nn : Word)
  /-- LD (HL),n (R239) -/
  | ldIndHlN (n : Byte)
  /-- JR C,d (R224) -/
  | jrCD (d : Byte)
  /-- LD A,n (R239) -/
  | ldAN (n : Byte)
  /-- JP NZ,nn (R310) -/
  | jpNzNn (nn : Word)
  /-- JP nn (R311) -/
  | jpNn (nn : Word)
  /-- CALL NZ,nn (R314) -/
  | callNzNn (nn : Word)
  /-- ADD A,n (R321) -/
  | addAN (n : Byte)
  /-- JP Z,nn (R310) -/
  | jpZNn (nn : Word)
  /-- the CB prefix row, with its sub-opcode byte (log 20) (R85) -/
  | prefixCb (b1 : Byte)
  /-- CALL Z,nn (R314) -/
  | callZNn (nn : Word)
  /-- CALL nn (R320) -/
  | callNn (nn : Word)
  /-- ADC A,n (R322) -/
  | adcAN (n : Byte)
  /-- JP NC,nn (R310) -/
  | jpNcNn (nn : Word)
  /-- CALL NC,nn (R314) -/
  | callNcNn (nn : Word)
  /-- SUB A,n (R323) -/
  | subAN (n : Byte)
  /-- JP C,nn (R310) -/
  | jpCNn (nn : Word)
  /-- CALL C,nn (R314) -/
  | callCNn (nn : Word)
  /-- SBC A,n (R324) -/
  | sbcAN (n : Byte)
  /-- LDH (n),A (R301) -/
  | ldhIndNA (n : Byte)
  /-- AND A,n (R325) -/
  | andAN (n : Byte)
  /-- ADD SP,d (R302) -/
  | addSpD (d : Byte)
  /-- LD (nn),A (R317) -/
  | ldIndNnA (nn : Word)
  /-- XOR A,n (R326) -/
  | xorAN (n : Byte)
  /-- LDH A,(n) (R303) -/
  | ldhAIndN (n : Byte)
  /-- OR A,n (R327) -/
  | orAN (n : Byte)
  /-- LD HL,SP+d (R304) -/
  | ldHlSpD (d : Byte)
  /-- LD A,(nn) (R319) -/
  | ldAIndNn (nn : Word)
  /-- CP A,n (R328) -/
  | cpAN (n : Byte)
  /-- RLC r[z] (R191) -/
  | rlcR (z : R8)
  /-- RRC r[z] (R192) -/
  | rrcR (z : R8)
  /-- RL r[z] (R193) -/
  | rlR (z : R8)
  /-- RR r[z] (R194) -/
  | rrR (z : R8)
  /-- SLA r[z] (R195) -/
  | slaR (z : R8)
  /-- SRA r[z] (R196) -/
  | sraR (z : R8)
  /-- SWAP r[z] (R197) -/
  | swapR (z : R8)
  /-- SRL r[z] (R198) -/
  | srlR (z : R8)
  /-- BIT 0,r[z] (R199) -/
  | bit0 (z : R8)
  /-- BIT 1,r[z] (R199) -/
  | bit1 (z : R8)
  /-- BIT 2,r[z] (R199) -/
  | bit2 (z : R8)
  /-- BIT 3,r[z] (R199) -/
  | bit3 (z : R8)
  /-- BIT 4,r[z] (R199) -/
  | bit4 (z : R8)
  /-- BIT 5,r[z] (R199) -/
  | bit5 (z : R8)
  /-- BIT 6,r[z] (R199) -/
  | bit6 (z : R8)
  /-- BIT 7,r[z] (R199) -/
  | bit7 (z : R8)
  /-- RES 0,r[z] (R200) -/
  | res0 (z : R8)
  /-- RES 1,r[z] (R200) -/
  | res1 (z : R8)
  /-- RES 2,r[z] (R200) -/
  | res2 (z : R8)
  /-- RES 3,r[z] (R200) -/
  | res3 (z : R8)
  /-- RES 4,r[z] (R200) -/
  | res4 (z : R8)
  /-- RES 5,r[z] (R200) -/
  | res5 (z : R8)
  /-- RES 6,r[z] (R200) -/
  | res6 (z : R8)
  /-- RES 7,r[z] (R200) -/
  | res7 (z : R8)
  /-- SET 0,r[z] (R201) -/
  | set0 (z : R8)
  /-- SET 1,r[z] (R201) -/
  | set1 (z : R8)
  /-- SET 2,r[z] (R201) -/
  | set2 (z : R8)
  /-- SET 3,r[z] (R201) -/
  | set3 (z : R8)
  /-- SET 4,r[z] (R201) -/
  | set4 (z : R8)
  /-- SET 5,r[z] (R201) -/
  | set5 (z : R8)
  /-- SET 6,r[z] (R201) -/
  | set6 (z : R8)
  /-- SET 7,r[z] (R201) -/
  | set7 (z : R8)
  /-- NOP (R220) -/
  | nop
  /-- LD (BC),A (R227) -/
  | ldIndBcA
  /-- INC BC (R235) -/
  | incBc
  /-- INC B (R237) -/
  | incB
  /-- DEC B (R238) -/
  | decB
  /-- RLCA (R240) -/
  | rlca
  /-- ADD HL,BC (R226) -/
  | addHlBc
  /-- LD A,(BC) (R231) -/
  | ldAIndBc
  /-- DEC BC (R236) -/
  | decBc
  /-- INC C (R237) -/
  | incC
  /-- DEC C (R238) -/
  | decC
  /-- RRCA (R241) -/
  | rrca
  /-- STOP (R222) -/
  | stop
  /-- LD (DE),A (R228) -/
  | ldIndDeA
  /-- INC DE (R235) -/
  | incDe
  /-- INC D (R237) -/
  | incD
  /-- DEC D (R238) -/
  | decD
  /-- RLA (R242) -/
  | rla
  /-- ADD HL,DE (R226) -/
  | addHlDe
  /-- LD A,(DE) (R232) -/
  | ldAIndDe
  /-- DEC DE (R236) -/
  | decDe
  /-- INC E (R237) -/
  | incE
  /-- DEC E (R238) -/
  | decE
  /-- RRA (R243) -/
  | rra
  /-- LD (HL+),A (R229) -/
  | ldIndHlIncA
  /-- INC HL (R235) -/
  | incHl
  /-- INC H (R237) -/
  | incH
  /-- DEC H (R238) -/
  | decH
  /-- DAA (R244) -/
  | daa
  /-- ADD HL,HL (R226) -/
  | addHlHl
  /-- LD A,(HL+) (R233) -/
  | ldAIndHlInc
  /-- DEC HL (R236) -/
  | decHl
  /-- INC L (R237) -/
  | incL
  /-- DEC L (R238) -/
  | decL
  /-- CPL (R245) -/
  | cpl
  /-- LD (HL-),A (R230) -/
  | ldIndHlDecA
  /-- INC SP (R235) -/
  | incSp
  /-- INC (HL) (R237) -/
  | incIndHl
  /-- DEC (HL) (R238) -/
  | decIndHl
  /-- SCF (R246) -/
  | scf
  /-- ADD HL,SP (R226) -/
  | addHlSp
  /-- LD A,(HL-) (R234) -/
  | ldAIndHlDec
  /-- DEC SP (R236) -/
  | decSp
  /-- INC A (R237) -/
  | incA
  /-- DEC A (R238) -/
  | decA
  /-- CCF (R247) -/
  | ccf
  /-- LD B,B (R270) -/
  | ldBB
  /-- LD B,C (R270) -/
  | ldBC
  /-- LD B,D (R270) -/
  | ldBD
  /-- LD B,E (R270) -/
  | ldBE
  /-- LD B,H (R270) -/
  | ldBH
  /-- LD B,L (R270) -/
  | ldBL
  /-- LD B,(HL) (R270) -/
  | ldBIndHl
  /-- LD B,A (R270) -/
  | ldBA
  /-- LD C,B (R270) -/
  | ldCB
  /-- LD C,C (R270) -/
  | ldCC
  /-- LD C,D (R270) -/
  | ldCD
  /-- LD C,E (R270) -/
  | ldCE
  /-- LD C,H (R270) -/
  | ldCH
  /-- LD C,L (R270) -/
  | ldCL
  /-- LD C,(HL) (R270) -/
  | ldCIndHl
  /-- LD C,A (R270) -/
  | ldCA
  /-- LD D,B (R270) -/
  | ldDB
  /-- LD D,C (R270) -/
  | ldDC
  /-- LD D,D (R270) -/
  | ldDD
  /-- LD D,E (R270) -/
  | ldDE
  /-- LD D,H (R270) -/
  | ldDH
  /-- LD D,L (R270) -/
  | ldDL
  /-- LD D,(HL) (R270) -/
  | ldDIndHl
  /-- LD D,A (R270) -/
  | ldDA
  /-- LD E,B (R270) -/
  | ldEB
  /-- LD E,C (R270) -/
  | ldEC
  /-- LD E,D (R270) -/
  | ldED
  /-- LD E,E (R270) -/
  | ldEE
  /-- LD E,H (R270) -/
  | ldEH
  /-- LD E,L (R270) -/
  | ldEL
  /-- LD E,(HL) (R270) -/
  | ldEIndHl
  /-- LD E,A (R270) -/
  | ldEA
  /-- LD H,B (R270) -/
  | ldHB
  /-- LD H,C (R270) -/
  | ldHC
  /-- LD H,D (R270) -/
  | ldHD
  /-- LD H,E (R270) -/
  | ldHE
  /-- LD H,H (R270) -/
  | ldHH
  /-- LD H,L (R270) -/
  | ldHL
  /-- LD H,(HL) (R270) -/
  | ldHIndHl
  /-- LD H,A (R270) -/
  | ldHA
  /-- LD L,B (R270) -/
  | ldLB
  /-- LD L,C (R270) -/
  | ldLC
  /-- LD L,D (R270) -/
  | ldLD
  /-- LD L,E (R270) -/
  | ldLE
  /-- LD L,H (R270) -/
  | ldLH
  /-- LD L,L (R270) -/
  | ldLL
  /-- LD L,(HL) (R270) -/
  | ldLIndHl
  /-- LD L,A (R270) -/
  | ldLA
  /-- LD (HL),B (R270) -/
  | ldIndHlB
  /-- LD (HL),C (R270) -/
  | ldIndHlC
  /-- LD (HL),D (R270) -/
  | ldIndHlD
  /-- LD (HL),E (R270) -/
  | ldIndHlE
  /-- LD (HL),H (R270) -/
  | ldIndHlH
  /-- LD (HL),L (R270) -/
  | ldIndHlL
  /-- HALT (R271) -/
  | halt
  /-- LD (HL),A (R270) -/
  | ldIndHlA
  /-- LD A,B (R270) -/
  | ldAB
  /-- LD A,C (R270) -/
  | ldAC
  /-- LD A,D (R270) -/
  | ldAD
  /-- LD A,E (R270) -/
  | ldAE
  /-- LD A,H (R270) -/
  | ldAH
  /-- LD A,L (R270) -/
  | ldAL
  /-- LD A,(HL) (R270) -/
  | ldAIndHl
  /-- LD A,A (R270) -/
  | ldAA
  /-- ADD A,B (R280) -/
  | addAB
  /-- ADD A,C (R280) -/
  | addAC
  /-- ADD A,D (R280) -/
  | addAD
  /-- ADD A,E (R280) -/
  | addAE
  /-- ADD A,H (R280) -/
  | addAH
  /-- ADD A,L (R280) -/
  | addAL
  /-- ADD A,(HL) (R280) -/
  | addAIndHl
  /-- ADD A,A (R280) -/
  | addAA
  /-- ADC A,B (R281) -/
  | adcAB
  /-- ADC A,C (R281) -/
  | adcAC
  /-- ADC A,D (R281) -/
  | adcAD
  /-- ADC A,E (R281) -/
  | adcAE
  /-- ADC A,H (R281) -/
  | adcAH
  /-- ADC A,L (R281) -/
  | adcAL
  /-- ADC A,(HL) (R281) -/
  | adcAIndHl
  /-- ADC A,A (R281) -/
  | adcAA
  /-- SUB A,B (R282) -/
  | subAB
  /-- SUB A,C (R282) -/
  | subAC
  /-- SUB A,D (R282) -/
  | subAD
  /-- SUB A,E (R282) -/
  | subAE
  /-- SUB A,H (R282) -/
  | subAH
  /-- SUB A,L (R282) -/
  | subAL
  /-- SUB A,(HL) (R282) -/
  | subAIndHl
  /-- SUB A,A (R282) -/
  | subAA
  /-- SBC A,B (R283) -/
  | sbcAB
  /-- SBC A,C (R283) -/
  | sbcAC
  /-- SBC A,D (R283) -/
  | sbcAD
  /-- SBC A,E (R283) -/
  | sbcAE
  /-- SBC A,H (R283) -/
  | sbcAH
  /-- SBC A,L (R283) -/
  | sbcAL
  /-- SBC A,(HL) (R283) -/
  | sbcAIndHl
  /-- SBC A,A (R283) -/
  | sbcAA
  /-- AND A,B (R284) -/
  | andAB
  /-- AND A,C (R284) -/
  | andAC
  /-- AND A,D (R284) -/
  | andAD
  /-- AND A,E (R284) -/
  | andAE
  /-- AND A,H (R284) -/
  | andAH
  /-- AND A,L (R284) -/
  | andAL
  /-- AND A,(HL) (R284) -/
  | andAIndHl
  /-- AND A,A (R284) -/
  | andAA
  /-- XOR A,B (R285) -/
  | xorAB
  /-- XOR A,C (R285) -/
  | xorAC
  /-- XOR A,D (R285) -/
  | xorAD
  /-- XOR A,E (R285) -/
  | xorAE
  /-- XOR A,H (R285) -/
  | xorAH
  /-- XOR A,L (R285) -/
  | xorAL
  /-- XOR A,(HL) (R285) -/
  | xorAIndHl
  /-- XOR A,A (R285) -/
  | xorAA
  /-- OR A,B (R286) -/
  | orAB
  /-- OR A,C (R286) -/
  | orAC
  /-- OR A,D (R286) -/
  | orAD
  /-- OR A,E (R286) -/
  | orAE
  /-- OR A,H (R286) -/
  | orAH
  /-- OR A,L (R286) -/
  | orAL
  /-- OR A,(HL) (R286) -/
  | orAIndHl
  /-- OR A,A (R286) -/
  | orAA
  /-- CP A,B (R287) -/
  | cpAB
  /-- CP A,C (R287) -/
  | cpAC
  /-- CP A,D (R287) -/
  | cpAD
  /-- CP A,E (R287) -/
  | cpAE
  /-- CP A,H (R287) -/
  | cpAH
  /-- CP A,L (R287) -/
  | cpAL
  /-- CP A,(HL) (R287) -/
  | cpAIndHl
  /-- CP A,A (R287) -/
  | cpAA
  /-- RET NZ (R300) -/
  | retNz
  /-- POP BC (R305) -/
  | popBc
  /-- PUSH BC (R315) -/
  | pushBc
  /-- RST 00H (R329) -/
  | rst00
  /-- RET Z (R300) -/
  | retZ
  /-- RET (R306) -/
  | ret
  /-- RST 08H (R329) -/
  | rst08
  /-- RET NC (R300) -/
  | retNc
  /-- POP DE (R305) -/
  | popDe
  /-- unrecognised opcode 0xD3 (R340) -/
  | unrecognisedD3
  /-- PUSH DE (R315) -/
  | pushDe
  /-- RST 10H (R329) -/
  | rst10
  /-- RET C (R300) -/
  | retC
  /-- RETI (R307) -/
  | reti
  /-- unrecognised opcode 0xDB (R340) -/
  | unrecognisedDB
  /-- unrecognised opcode 0xDD (R340) -/
  | unrecognisedDD
  /-- RST 18H (R329) -/
  | rst18
  /-- POP HL (R305) -/
  | popHl
  /-- LDH (C),A (R316) -/
  | ldhIndCA
  /-- unrecognised opcode 0xE3 (R340) -/
  | unrecognisedE3
  /-- unrecognised opcode 0xE4 (R340) -/
  | unrecognisedE4
  /-- PUSH HL (R315) -/
  | pushHl
  /-- RST 20H (R329) -/
  | rst20
  /-- JP HL (R308) -/
  | jpHl
  /-- unrecognised opcode 0xEB (R340) -/
  | unrecognisedEB
  /-- unrecognised opcode 0xEC (R340) -/
  | unrecognisedEC
  /-- unrecognised opcode 0xED (R340) -/
  | unrecognisedED
  /-- RST 28H (R329) -/
  | rst28
  /-- POP AF (R305) -/
  | popAf
  /-- LDH A,(C) (R318) -/
  | ldhAIndC
  /-- DI (R312) -/
  | di
  /-- unrecognised opcode 0xF4 (R340) -/
  | unrecognisedF4
  /-- PUSH AF (R315) -/
  | pushAf
  /-- RST 30H (R329) -/
  | rst30
  /-- LD SP,HL (R309) -/
  | ldSpHl
  /-- EI (R313) -/
  | ei
  /-- unrecognised opcode 0xFC (R340) -/
  | unrecognisedFC
  /-- unrecognised opcode 0xFD (R340) -/
  | unrecognisedFD
  /-- RST 38H (R329) -/
  | rst38
  deriving DecidableEq, Repr

end Sys2Proof
end

