-- ==== Sys2Proof/WellFormed.lean ====
section
/-! DEFINITION. Well-formed instructions: those that are the decoding of some bytes. Every operand type has exactly the
values its field admits (30_encoding.md R82, R86), so only two things are left to check. -/

namespace Sys2Proof

/-- Well-formedness under a setting of `HAS_ABS_A`.
`prefixCb` is refused because a 0xCB instruction is written by the constructor of its own row, never by the row of the
prefix byte (30_encoding.md R84, R85; log 20). LD (nn),A and LD A,(nn) exist only under `HAS_ABS_A` (R317, R319).
Every other constructor is well-formed with every operand. -/
def Instr.wellFormedWith (hasAbsA : Bool) : Instr → Bool
  | .prefixCb _ => false
  | .ldIndNnA _ => hasAbsA
  | .ldAIndNn _ => hasAbsA
  | _ => true

/-- Well-formedness under the configured `HAS_ABS_A`. -/
def Instr.wellFormed (i : Instr) : Bool := i.wellFormedWith Config.hasAbsA

end Sys2Proof
end

