-- ==== Sys2Proof/Decode.lean ====
section
/-! DEFINITION. The decoder (30_encoding.md R80 to R102), total on any window and any bytes, and after it the encoder.
Decoding goes by the fields x, y, z, p, q as the spec's algorithm does (R84 to R90); encoding goes by the number each
row of the map has (R94, R98). The numbers of blocks x = 0 and x = 3 and of the rotate table are the spec's decisions
D2 and D3 (log 7); the order of the immediate bytes is D10 (log 8). -/

namespace Sys2Proof

open Sys2Proof.Machine

/-! ## Fields of an opcode byte (R82) -/

/-- `x = op[7:6]`. -/
def fieldX (op : Byte) : BitVec 2 := op.extractLsb' 6 2

/-- `y = op[5:3]`. -/
def fieldY (op : Byte) : BitVec 3 := op.extractLsb' 3 3

/-- `z = op[2:0]`. -/
def fieldZ (op : Byte) : BitVec 3 := op.extractLsb' 0 3

/-- `p = y[2:1]`. -/
def fieldP (y : BitVec 3) : BitVec 2 := y.extractLsb' 1 2

/-- `q = y[0]`. -/
def fieldQ (y : BitVec 3) : Bool := y.getLsbD 0

/-- The opcode byte with fields x, y, z. -/
def opcodeOf (x : BitVec 2) (y z : BitVec 3) : Byte := x ++ (y ++ z)

/-! ## The small tables by index -/

/-- Table `r` by index (10_state.md R26). -/
def r8Of (i : BitVec 3) : R8 :=
  match i with
  | 0 => .b | 1 => .c | 2 => .d | 3 => .e | 4 => .h | 5 => .l | 6 => .ind | 7 => .a

/-- The index of an entry of table `r`. -/
def r8Index (r : R8) : BitVec 3 :=
  match r with
  | .b => 0 | .c => 1 | .d => 2 | .e => 3 | .h => 4 | .l => 5 | .ind => 6 | .a => 7

/-- Table `rp` by index (10_state.md R27). -/
def rpOf (i : BitVec 2) : Rp :=
  match i with
  | 0 => .bc | 1 => .de | 2 => .hl | 3 => .sp

/-- Table `rf` by index (10_state.md R28). -/
def rfOf (i : BitVec 2) : Rf :=
  match i with
  | 0 => .bc | 1 => .de | 2 => .hl | 3 => .af

/-- Table `cc` by the low two bits of y: y in RET, JP, CALL and y - 4 in JR (R91). -/
def ccOf (y : BitVec 3) : Cc :=
  match y.extractLsb' 0 2 with
  | 0 => .nz | 1 => .z | 2 => .nc | 3 => .c

/-- Table `al` by index (R92). -/
def aluOf (i : BitVec 3) : AluOp :=
  match i with
  | 0 => .add | 1 => .adc | 2 => .sub | 3 => .sbc | 4 => .and | 5 => .xor | 6 => .or | 7 => .cp

/-- Table `rot` by index (R93, D3, log 7). -/
def rotOf (i : BitVec 3) : RotOp :=
  match i with
  | 0 => .rlc | 1 => .rrc | 2 => .rl | 3 => .rr | 4 => .sla | 5 => .sra | 6 => .swap | 7 => .srl

/-! ## The row of the table that operands select -/

/-- LD r[y],r[z], and HALT at y = z = 6 (R88). -/
def selLdRR (dst : R8) (src : R8) : Instr :=
  match dst, src with
  | .b, .b => .ldBB | .b, .c => .ldBC | .b, .d => .ldBD | .b, .e => .ldBE
  | .b, .h => .ldBH | .b, .l => .ldBL | .b, .ind => .ldBIndHl | .b, .a => .ldBA
  | .c, .b => .ldCB | .c, .c => .ldCC | .c, .d => .ldCD | .c, .e => .ldCE
  | .c, .h => .ldCH | .c, .l => .ldCL | .c, .ind => .ldCIndHl | .c, .a => .ldCA
  | .d, .b => .ldDB | .d, .c => .ldDC | .d, .d => .ldDD | .d, .e => .ldDE
  | .d, .h => .ldDH | .d, .l => .ldDL | .d, .ind => .ldDIndHl | .d, .a => .ldDA
  | .e, .b => .ldEB | .e, .c => .ldEC | .e, .d => .ldED | .e, .e => .ldEE
  | .e, .h => .ldEH | .e, .l => .ldEL | .e, .ind => .ldEIndHl | .e, .a => .ldEA
  | .h, .b => .ldHB | .h, .c => .ldHC | .h, .d => .ldHD | .h, .e => .ldHE
  | .h, .h => .ldHH | .h, .l => .ldHL | .h, .ind => .ldHIndHl | .h, .a => .ldHA
  | .l, .b => .ldLB | .l, .c => .ldLC | .l, .d => .ldLD | .l, .e => .ldLE
  | .l, .h => .ldLH | .l, .l => .ldLL | .l, .ind => .ldLIndHl | .l, .a => .ldLA
  | .ind, .b => .ldIndHlB | .ind, .c => .ldIndHlC | .ind, .d => .ldIndHlD | .ind, .e => .ldIndHlE
  | .ind, .h => .ldIndHlH | .ind, .l => .ldIndHlL | .ind, .ind => .halt | .ind, .a => .ldIndHlA
  | .a, .b => .ldAB | .a, .c => .ldAC | .a, .d => .ldAD | .a, .e => .ldAE
  | .a, .h => .ldAH | .a, .l => .ldAL | .a, .ind => .ldAIndHl | .a, .a => .ldAA

/-- al[y] A,r[z] (R89). -/
def selAluR (op : AluOp) (src : R8) : Instr :=
  match op, src with
  | .add, .b => .addAB | .add, .c => .addAC | .add, .d => .addAD | .add, .e => .addAE
  | .add, .h => .addAH | .add, .l => .addAL | .add, .ind => .addAIndHl | .add, .a => .addAA
  | .adc, .b => .adcAB | .adc, .c => .adcAC | .adc, .d => .adcAD | .adc, .e => .adcAE
  | .adc, .h => .adcAH | .adc, .l => .adcAL | .adc, .ind => .adcAIndHl | .adc, .a => .adcAA
  | .sub, .b => .subAB | .sub, .c => .subAC | .sub, .d => .subAD | .sub, .e => .subAE
  | .sub, .h => .subAH | .sub, .l => .subAL | .sub, .ind => .subAIndHl | .sub, .a => .subAA
  | .sbc, .b => .sbcAB | .sbc, .c => .sbcAC | .sbc, .d => .sbcAD | .sbc, .e => .sbcAE
  | .sbc, .h => .sbcAH | .sbc, .l => .sbcAL | .sbc, .ind => .sbcAIndHl | .sbc, .a => .sbcAA
  | .and, .b => .andAB | .and, .c => .andAC | .and, .d => .andAD | .and, .e => .andAE
  | .and, .h => .andAH | .and, .l => .andAL | .and, .ind => .andAIndHl | .and, .a => .andAA
  | .xor, .b => .xorAB | .xor, .c => .xorAC | .xor, .d => .xorAD | .xor, .e => .xorAE
  | .xor, .h => .xorAH | .xor, .l => .xorAL | .xor, .ind => .xorAIndHl | .xor, .a => .xorAA
  | .or, .b => .orAB | .or, .c => .orAC | .or, .d => .orAD | .or, .e => .orAE
  | .or, .h => .orAH | .or, .l => .orAL | .or, .ind => .orAIndHl | .or, .a => .orAA
  | .cp, .b => .cpAB | .cp, .c => .cpAC | .cp, .d => .cpAD | .cp, .e => .cpAE
  | .cp, .h => .cpAH | .cp, .l => .cpAL | .cp, .ind => .cpAIndHl | .cp, .a => .cpAA

/-- al[y] A,n (R90, z = 6). -/
def selAluN (op : AluOp) (n : Byte) : Instr :=
  match op with
  | .add => .addAN n | .adc => .adcAN n | .sub => .subAN n | .sbc => .sbcAN n
  | .and => .andAN n | .xor => .xorAN n | .or => .orAN n | .cp => .cpAN n

/-- INC r[y] (R87, z = 4). -/
def selIncR (r : R8) : Instr :=
  match r with
  | .b => .incB | .c => .incC | .d => .incD | .e => .incE
  | .h => .incH | .l => .incL | .ind => .incIndHl | .a => .incA

/-- DEC r[y] (R87, z = 5). -/
def selDecR (r : R8) : Instr :=
  match r with
  | .b => .decB | .c => .decC | .d => .decD | .e => .decE
  | .h => .decH | .l => .decL | .ind => .decIndHl | .a => .decA

/-- LD r[y],n (R87, z = 6). -/
def selLdRN (r : R8) (n : Byte) : Instr :=
  match r with
  | .b => .ldBN n | .c => .ldCN n | .d => .ldDN n | .e => .ldEN n
  | .h => .ldHN n | .l => .ldLN n | .ind => .ldIndHlN n | .a => .ldAN n

/-- LD rp[p],nn (R87, z = 1, q = 0). -/
def selLdRpNn (r : Rp) (nn : Word) : Instr :=
  match r with
  | .bc => .ldBcNn nn | .de => .ldDeNn nn | .hl => .ldHlNn nn | .sp => .ldSpNn nn

/-- ADD HL,rp[p] (R87, z = 1, q = 1). -/
def selAddHl (r : Rp) : Instr :=
  match r with
  | .bc => .addHlBc | .de => .addHlDe | .hl => .addHlHl | .sp => .addHlSp

/-- INC rp[p] (R87, z = 3, q = 0). -/
def selIncRp (r : Rp) : Instr :=
  match r with
  | .bc => .incBc | .de => .incDe | .hl => .incHl | .sp => .incSp

/-- DEC rp[p] (R87, z = 3, q = 1). -/
def selDecRp (r : Rp) : Instr :=
  match r with
  | .bc => .decBc | .de => .decDe | .hl => .decHl | .sp => .decSp

/-- POP rf[p] (R90, z = 1, q = 0). -/
def selPop (r : Rf) : Instr :=
  match r with
  | .bc => .popBc | .de => .popDe | .hl => .popHl | .af => .popAf

/-- PUSH rf[p] (R90, z = 5, q = 0). -/
def selPush (r : Rf) : Instr :=
  match r with
  | .bc => .pushBc | .de => .pushDe | .hl => .pushHl | .af => .pushAf

/-- JR cc,d (R87, z = 0). -/
def selJrCc (cc : Cc) (d : Byte) : Instr :=
  match cc with
  | .nz => .jrNzD d | .z => .jrZD d | .nc => .jrNcD d | .c => .jrCD d

/-- RET cc (R90, z = 0). -/
def selRetCc (cc : Cc) : Instr :=
  match cc with
  | .nz => .retNz | .z => .retZ | .nc => .retNc | .c => .retC

/-- JP cc,nn (R90, z = 2). -/
def selJpCc (cc : Cc) (nn : Word) : Instr :=
  match cc with
  | .nz => .jpNzNn nn | .z => .jpZNn nn | .nc => .jpNcNn nn | .c => .jpCNn nn

/-- CALL cc,nn (R90, z = 4). -/
def selCallCc (cc : Cc) (nn : Word) : Instr :=
  match cc with
  | .nz => .callNzNn nn | .z => .callZNn nn | .nc => .callNcNn nn | .c => .callCNn nn

/-- RST y*8 (R90, z = 7). -/
def selRst (y : BitVec 3) : Instr :=
  match y with
  | 0 => .rst00 | 1 => .rst08 | 2 => .rst10 | 3 => .rst18
  | 4 => .rst20 | 5 => .rst28 | 6 => .rst30 | 7 => .rst38

/-- rot[y] r[z] (R85, x = 0). -/
def selRot (op : RotOp) (z : R8) : Instr :=
  match op with
  | .rlc => .rlcR z | .rrc => .rrcR z | .rl => .rlR z | .rr => .rrR z
  | .sla => .slaR z | .sra => .sraR z | .swap => .swapR z | .srl => .srlR z

/-- BIT y,r[z] (R85, x = 1). -/
def selBit (i : Fin 8) (z : R8) : Instr :=
  match i with
  | 0 => .bit0 z | 1 => .bit1 z | 2 => .bit2 z | 3 => .bit3 z
  | 4 => .bit4 z | 5 => .bit5 z | 6 => .bit6 z | 7 => .bit7 z

/-- RES y,r[z] (R85, x = 2). -/
def selRes (i : Fin 8) (z : R8) : Instr :=
  match i with
  | 0 => .res0 z | 1 => .res1 z | 2 => .res2 z | 3 => .res3 z
  | 4 => .res4 z | 5 => .res5 z | 6 => .res6 z | 7 => .res7 z

/-- SET y,r[z] (R85, x = 3). -/
def selSet (i : Fin 8) (z : R8) : Instr :=
  match i with
  | 0 => .set0 z | 1 => .set1 z | 2 => .set2 z | 3 => .set3 z
  | 4 => .set4 z | 5 => .set5 z | 6 => .set6 z | 7 => .set7 z

/-! ## Decoding a window -/

/-- Why bytes are not an instruction. -/
inductive DecodeRefusal where
  /-- No byte, or fewer bytes than the opcode's length (R80, R81). -/
  | truncated
  /-- 0xEA or 0xFA where `HAS_ABS_A` is false: both then join the unrecognised opcodes (R95, R317, R319). -/
  | absoluteLoadAbsent (b0 : Byte)
  deriving DecidableEq, Repr

/-- The CB map on the sub-opcode b1 (R85, R98): every value is recognised. -/
def decodeCb (b1 : Byte) : Instr :=
  match fieldX b1 with
  | 0 => selRot (rotOf (fieldY b1)) (r8Of (fieldZ b1))
  | 1 => selBit (fieldY b1).toFin (r8Of (fieldZ b1))
  | 2 => selRes (fieldY b1).toFin (r8Of (fieldZ b1))
  | 3 => selSet (fieldY b1).toFin (r8Of (fieldZ b1))

/-- Block x = 0 (R87); `b1` serves as n and d, `nn` is b2 ‖ b1. -/
def decodeX0 (y z : BitVec 3) (b1 : Byte) (nn : Word) : Instr :=
  match z with
  | 0 =>
    match y with
    | 0 => .nop
    | 1 => .ldIndNnSp nn
    | 2 => .stop
    | 3 => .jrD b1
    | 4 | 5 | 6 | 7 => selJrCc (ccOf y) b1
  | 1 => if fieldQ y then selAddHl (rpOf (fieldP y)) else selLdRpNn (rpOf (fieldP y)) nn
  | 2 =>
    match y with
    | 0 => .ldIndBcA
    | 1 => .ldAIndBc
    | 2 => .ldIndDeA
    | 3 => .ldAIndDe
    | 4 => .ldIndHlIncA
    | 5 => .ldAIndHlInc
    | 6 => .ldIndHlDecA
    | 7 => .ldAIndHlDec
  | 3 => if fieldQ y then selDecRp (rpOf (fieldP y)) else selIncRp (rpOf (fieldP y))
  | 4 => selIncR (r8Of y)
  | 5 => selDecR (r8Of y)
  | 6 => selLdRN (r8Of y) b1
  | 7 =>
    match y with
    | 0 => .rlca
    | 1 => .rrca
    | 2 => .rla
    | 3 => .rra
    | 4 => .daa
    | 5 => .cpl
    | 6 => .scf
    | 7 => .ccf

/-- Block x = 3 (R90), with the CB prefix at z = 3, y = 1 (R84) and the eleven unrecognised opcodes (R95). -/
def decodeX3 (hasAbsA : Bool) (y z : BitVec 3) (b1 : Byte) (nn : Word) : Except DecodeRefusal Instr :=
  match z with
  | 0 =>
    match y with
    | 0 | 1 | 2 | 3 => .ok (selRetCc (ccOf y))
    | 4 => .ok (.ldhIndNA b1)
    | 5 => .ok (.addSpD b1)
    | 6 => .ok (.ldhAIndN b1)
    | 7 => .ok (.ldHlSpD b1)
  | 1 =>
    match y with
    | 0 | 2 | 4 | 6 => .ok (selPop (rfOf (fieldP y)))
    | 1 => .ok .ret
    | 3 => .ok .reti
    | 5 => .ok .jpHl
    | 7 => .ok .ldSpHl
  | 2 =>
    match y with
    | 0 | 1 | 2 | 3 => .ok (selJpCc (ccOf y) nn)
    | 4 => .ok .ldhIndCA
    | 5 => if hasAbsA then .ok (.ldIndNnA nn) else .error (.absoluteLoadAbsent 0xEA#8)
    | 6 => .ok .ldhAIndC
    | 7 => if hasAbsA then .ok (.ldAIndNn nn) else .error (.absoluteLoadAbsent 0xFA#8)
  | 3 =>
    match y with
    | 0 => .ok (.jpNn nn)
    | 1 => .ok (decodeCb b1)
    | 2 => .ok .unrecognisedD3
    | 3 => .ok .unrecognisedDB
    | 4 => .ok .unrecognisedE3
    | 5 => .ok .unrecognisedEB
    | 6 => .ok .di
    | 7 => .ok .ei
  | 4 =>
    match y with
    | 0 | 1 | 2 | 3 => .ok (selCallCc (ccOf y) nn)
    | 4 => .ok .unrecognisedE4
    | 5 => .ok .unrecognisedEC
    | 6 => .ok .unrecognisedF4
    | 7 => .ok .unrecognisedFC
  | 5 =>
    match y with
    | 0 | 2 | 4 | 6 => .ok (selPush (rfOf (fieldP y)))
    | 1 => .ok (.callNn nn)
    | 3 => .ok .unrecognisedDD
    | 5 => .ok .unrecognisedED
    | 7 => .ok .unrecognisedFD
  | 6 => .ok (selAluN (aluOf y) b1)
  | 7 => .ok (selRst y)

/-- The decode of a window (R84) under a setting of `HAS_ABS_A`. -/
def decodeWindowWith (hasAbsA : Bool) (b0 b1 b2 : Byte) : Except DecodeRefusal Instr :=
  match fieldX b0 with
  | 0 => .ok (decodeX0 (fieldY b0) (fieldZ b0) b1 (compose b2 b1))
  | 1 => .ok (selLdRR (r8Of (fieldY b0)) (r8Of (fieldZ b0)))
  | 2 => .ok (selAluR (aluOf (fieldY b0)) (r8Of (fieldZ b0)))
  | 3 => decodeX3 hasAbsA (fieldY b0) (fieldZ b0) b1 (compose b2 b1)

/-- The decode of a window under the configured `HAS_ABS_A`. -/
def decodeWindow (b0 b1 b2 : Byte) : Except DecodeRefusal Instr := decodeWindowWith Config.hasAbsA b0 b1 b2

/-! ## Lengths and decoding a list of bytes -/

/-- `STOP_LEN` as a number (R222, D7, log 3). -/
def stopLength (m : StopLen) : Nat :=
  match m with
  | .one => 1
  | .two => 2

/-- The length in bytes of the instruction an opcode byte begins, a function of that byte alone (R81), by the formats of
R80. An unrecognised opcode has no length of its own (R95): it is written as its one byte (log 26). -/
def opcodeLengthWith (hasAbsA : Bool) (m : StopLen) (b0 : Byte) : Nat :=
  let y := fieldY b0
  match fieldX b0 with
  | 0 =>
    match fieldZ b0 with
    | 0 =>
      match y with
      | 0 => 1
      | 1 => 3
      | 2 => stopLength m
      | 3 | 4 | 5 | 6 | 7 => 2
    | 1 => if fieldQ y then 1 else 3
    | 6 => 2
    | 2 | 3 | 4 | 5 | 7 => 1
  | 1 => 1
  | 2 => 1
  | 3 =>
    match fieldZ b0 with
    | 0 =>
      match y with
      | 0 | 1 | 2 | 3 => 1
      | 4 | 5 | 6 | 7 => 2
    | 2 =>
      match y with
      | 0 | 1 | 2 | 3 => 3
      | 5 | 7 => if hasAbsA then 3 else 1
      | 4 | 6 => 1
    | 3 =>
      match y with
      | 0 => 3
      | 1 => 2
      | 2 | 3 | 4 | 5 | 6 | 7 => 1
    | 4 =>
      match y with
      | 0 | 1 | 2 | 3 => 3
      | 4 | 5 | 6 | 7 => 1
    | 5 => if y = 1 then 3 else 1
    | 6 => 2
    | 1 | 7 => 1

/-- The length under the configured parameters. -/
def opcodeLength (b0 : Byte) : Nat := opcodeLengthWith Config.hasAbsA Config.stopLen b0

/-- Decoding a list of bytes: the instruction at its head and the bytes after it. Total: it refuses by name. -/
def decode (bytes : List Byte) : Except DecodeRefusal (Instr × List Byte) :=
  match bytes with
  | [] => .error .truncated
  | b0 :: rest =>
    if rest.length + 1 < opcodeLength b0 then .error .truncated
    else
      match decodeWindow b0 (rest.getD 0 0#8) (rest.getD 1 0#8) with
      | .ok i => .ok (i, rest.drop (opcodeLength b0 - 1))
      | .error e => .error e

/-! ## The opcode table's numbering -/

/-- The first three bytes of an instruction whose bits are `w` in the table's numbering, zeros above `nbits`. Bit 0 is
the least significant bit of the first byte; a CB row of two bytes is numbered with b0 as the HIGH byte (R101: "over the
16-bit string b0 ‖ b1 with b0 as the high byte"), so there the bytes change places (log 21). -/
def tableBytes (nbits w : Nat) : List Byte :=
  let v := w % 2 ^ nbits
  let first := BitVec.ofNat 8 v
  let second := BitVec.ofNat 8 (v / 256)
  let third := BitVec.ofNat 8 (v / 65536)
  if nbits = 16 ∧ second = 0xCB#8 then [second, first, 0#8] else [first, second, third]

/-- What the decoder reads from an instruction whose bits are `w` in the table's numbering. -/
def decodeTableWord (nbits w : Nat) : Option Instr :=
  match decode (tableBytes nbits w) with
  | .ok (i, _) => some i
  | .error _ => none

/-! ## The encoder -/

/-- The bytes of STOP: the opcode, and the byte it skips where `STOP_LEN` is 2, written as 0x00 (R222, log 26). -/
def stopBytes (m : StopLen) : List Byte :=
  match m with
  | .one => [0x10#8]
  | .two => [0x10#8, 0x00#8]

/-- An opcode and an 8-bit immediate: formats OP_N and OP_D (R83). -/
def opN (op n : Byte) : List Byte := [op, n]

/-- An opcode and a 16-bit immediate, low byte first: format OP_NN (R83, D10, log 8). -/
def opNn (op : Byte) (nn : Word) : List Byte := [op, lowByte nn, highByte nn]

/-- The prefix 0xCB and a sub-opcode: the row's first value plus z (R83, R98). -/
def cb (base : Byte) (z : R8) : List Byte := [0xCB#8, base + (r8Index z).setWidth 8]

/-- The bytes of an instruction, by the number of its row in the map (R94, R98). -/
def encode (i : Instr) : List Byte :=
  match i with
  | .nop => [0x00#8]
  | .ldBcNn nn => opNn 0x01#8 nn
  | .ldIndBcA => [0x02#8]
  | .incBc => [0x03#8]
  | .incB => [0x04#8]
  | .decB => [0x05#8]
  | .ldBN n => opN 0x06#8 n
  | .rlca => [0x07#8]
  | .ldIndNnSp nn => opNn 0x08#8 nn
  | .addHlBc => [0x09#8]
  | .ldAIndBc => [0x0A#8]
  | .decBc => [0x0B#8]
  | .incC => [0x0C#8]
  | .decC => [0x0D#8]
  | .ldCN n => opN 0x0E#8 n
  | .rrca => [0x0F#8]
  | .stop => stopBytes Config.stopLen
  | .ldDeNn nn => opNn 0x11#8 nn
  | .ldIndDeA => [0x12#8]
  | .incDe => [0x13#8]
  | .incD => [0x14#8]
  | .decD => [0x15#8]
  | .ldDN n => opN 0x16#8 n
  | .rla => [0x17#8]
  | .jrD d => opN 0x18#8 d
  | .addHlDe => [0x19#8]
  | .ldAIndDe => [0x1A#8]
  | .decDe => [0x1B#8]
  | .incE => [0x1C#8]
  | .decE => [0x1D#8]
  | .ldEN n => opN 0x1E#8 n
  | .rra => [0x1F#8]
  | .jrNzD d => opN 0x20#8 d
  | .ldHlNn nn => opNn 0x21#8 nn
  | .ldIndHlIncA => [0x22#8]
  | .incHl => [0x23#8]
  | .incH => [0x24#8]
  | .decH => [0x25#8]
  | .ldHN n => opN 0x26#8 n
  | .daa => [0x27#8]
  | .jrZD d => opN 0x28#8 d
  | .addHlHl => [0x29#8]
  | .ldAIndHlInc => [0x2A#8]
  | .decHl => [0x2B#8]
  | .incL => [0x2C#8]
  | .decL => [0x2D#8]
  | .ldLN n => opN 0x2E#8 n
  | .cpl => [0x2F#8]
  | .jrNcD d => opN 0x30#8 d
  | .ldSpNn nn => opNn 0x31#8 nn
  | .ldIndHlDecA => [0x32#8]
  | .incSp => [0x33#8]
  | .incIndHl => [0x34#8]
  | .decIndHl => [0x35#8]
  | .ldIndHlN n => opN 0x36#8 n
  | .scf => [0x37#8]
  | .jrCD d => opN 0x38#8 d
  | .addHlSp => [0x39#8]
  | .ldAIndHlDec => [0x3A#8]
  | .decSp => [0x3B#8]
  | .incA => [0x3C#8]
  | .decA => [0x3D#8]
  | .ldAN n => opN 0x3E#8 n
  | .ccf => [0x3F#8]
  | .ldBB => [0x40#8]
  | .ldBC => [0x41#8]
  | .ldBD => [0x42#8]
  | .ldBE => [0x43#8]
  | .ldBH => [0x44#8]
  | .ldBL => [0x45#8]
  | .ldBIndHl => [0x46#8]
  | .ldBA => [0x47#8]
  | .ldCB => [0x48#8]
  | .ldCC => [0x49#8]
  | .ldCD => [0x4A#8]
  | .ldCE => [0x4B#8]
  | .ldCH => [0x4C#8]
  | .ldCL => [0x4D#8]
  | .ldCIndHl => [0x4E#8]
  | .ldCA => [0x4F#8]
  | .ldDB => [0x50#8]
  | .ldDC => [0x51#8]
  | .ldDD => [0x52#8]
  | .ldDE => [0x53#8]
  | .ldDH => [0x54#8]
  | .ldDL => [0x55#8]
  | .ldDIndHl => [0x56#8]
  | .ldDA => [0x57#8]
  | .ldEB => [0x58#8]
  | .ldEC => [0x59#8]
  | .ldED => [0x5A#8]
  | .ldEE => [0x5B#8]
  | .ldEH => [0x5C#8]
  | .ldEL => [0x5D#8]
  | .ldEIndHl => [0x5E#8]
  | .ldEA => [0x5F#8]
  | .ldHB => [0x60#8]
  | .ldHC => [0x61#8]
  | .ldHD => [0x62#8]
  | .ldHE => [0x63#8]
  | .ldHH => [0x64#8]
  | .ldHL => [0x65#8]
  | .ldHIndHl => [0x66#8]
  | .ldHA => [0x67#8]
  | .ldLB => [0x68#8]
  | .ldLC => [0x69#8]
  | .ldLD => [0x6A#8]
  | .ldLE => [0x6B#8]
  | .ldLH => [0x6C#8]
  | .ldLL => [0x6D#8]
  | .ldLIndHl => [0x6E#8]
  | .ldLA => [0x6F#8]
  | .ldIndHlB => [0x70#8]
  | .ldIndHlC => [0x71#8]
  | .ldIndHlD => [0x72#8]
  | .ldIndHlE => [0x73#8]
  | .ldIndHlH => [0x74#8]
  | .ldIndHlL => [0x75#8]
  | .halt => [0x76#8]
  | .ldIndHlA => [0x77#8]
  | .ldAB => [0x78#8]
  | .ldAC => [0x79#8]
  | .ldAD => [0x7A#8]
  | .ldAE => [0x7B#8]
  | .ldAH => [0x7C#8]
  | .ldAL => [0x7D#8]
  | .ldAIndHl => [0x7E#8]
  | .ldAA => [0x7F#8]
  | .addAB => [0x80#8]
  | .addAC => [0x81#8]
  | .addAD => [0x82#8]
  | .addAE => [0x83#8]
  | .addAH => [0x84#8]
  | .addAL => [0x85#8]
  | .addAIndHl => [0x86#8]
  | .addAA => [0x87#8]
  | .adcAB => [0x88#8]
  | .adcAC => [0x89#8]
  | .adcAD => [0x8A#8]
  | .adcAE => [0x8B#8]
  | .adcAH => [0x8C#8]
  | .adcAL => [0x8D#8]
  | .adcAIndHl => [0x8E#8]
  | .adcAA => [0x8F#8]
  | .subAB => [0x90#8]
  | .subAC => [0x91#8]
  | .subAD => [0x92#8]
  | .subAE => [0x93#8]
  | .subAH => [0x94#8]
  | .subAL => [0x95#8]
  | .subAIndHl => [0x96#8]
  | .subAA => [0x97#8]
  | .sbcAB => [0x98#8]
  | .sbcAC => [0x99#8]
  | .sbcAD => [0x9A#8]
  | .sbcAE => [0x9B#8]
  | .sbcAH => [0x9C#8]
  | .sbcAL => [0x9D#8]
  | .sbcAIndHl => [0x9E#8]
  | .sbcAA => [0x9F#8]
  | .andAB => [0xA0#8]
  | .andAC => [0xA1#8]
  | .andAD => [0xA2#8]
  | .andAE => [0xA3#8]
  | .andAH => [0xA4#8]
  | .andAL => [0xA5#8]
  | .andAIndHl => [0xA6#8]
  | .andAA => [0xA7#8]
  | .xorAB => [0xA8#8]
  | .xorAC => [0xA9#8]
  | .xorAD => [0xAA#8]
  | .xorAE => [0xAB#8]
  | .xorAH => [0xAC#8]
  | .xorAL => [0xAD#8]
  | .xorAIndHl => [0xAE#8]
  | .xorAA => [0xAF#8]
  | .orAB => [0xB0#8]
  | .orAC => [0xB1#8]
  | .orAD => [0xB2#8]
  | .orAE => [0xB3#8]
  | .orAH => [0xB4#8]
  | .orAL => [0xB5#8]
  | .orAIndHl => [0xB6#8]
  | .orAA => [0xB7#8]
  | .cpAB => [0xB8#8]
  | .cpAC => [0xB9#8]
  | .cpAD => [0xBA#8]
  | .cpAE => [0xBB#8]
  | .cpAH => [0xBC#8]
  | .cpAL => [0xBD#8]
  | .cpAIndHl => [0xBE#8]
  | .cpAA => [0xBF#8]
  | .retNz => [0xC0#8]
  | .popBc => [0xC1#8]
  | .jpNzNn nn => opNn 0xC2#8 nn
  | .jpNn nn => opNn 0xC3#8 nn
  | .callNzNn nn => opNn 0xC4#8 nn
  | .pushBc => [0xC5#8]
  | .addAN n => opN 0xC6#8 n
  | .rst00 => [0xC7#8]
  | .retZ => [0xC8#8]
  | .ret => [0xC9#8]
  | .jpZNn nn => opNn 0xCA#8 nn
  | .prefixCb b1 => [0xCB#8, b1]
  | .callZNn nn => opNn 0xCC#8 nn
  | .callNn nn => opNn 0xCD#8 nn
  | .adcAN n => opN 0xCE#8 n
  | .rst08 => [0xCF#8]
  | .retNc => [0xD0#8]
  | .popDe => [0xD1#8]
  | .jpNcNn nn => opNn 0xD2#8 nn
  | .unrecognisedD3 => [0xD3#8]
  | .callNcNn nn => opNn 0xD4#8 nn
  | .pushDe => [0xD5#8]
  | .subAN n => opN 0xD6#8 n
  | .rst10 => [0xD7#8]
  | .retC => [0xD8#8]
  | .reti => [0xD9#8]
  | .jpCNn nn => opNn 0xDA#8 nn
  | .unrecognisedDB => [0xDB#8]
  | .callCNn nn => opNn 0xDC#8 nn
  | .unrecognisedDD => [0xDD#8]
  | .sbcAN n => opN 0xDE#8 n
  | .rst18 => [0xDF#8]
  | .ldhIndNA n => opN 0xE0#8 n
  | .popHl => [0xE1#8]
  | .ldhIndCA => [0xE2#8]
  | .unrecognisedE3 => [0xE3#8]
  | .unrecognisedE4 => [0xE4#8]
  | .pushHl => [0xE5#8]
  | .andAN n => opN 0xE6#8 n
  | .rst20 => [0xE7#8]
  | .addSpD d => opN 0xE8#8 d
  | .jpHl => [0xE9#8]
  | .ldIndNnA nn => opNn 0xEA#8 nn
  | .unrecognisedEB => [0xEB#8]
  | .unrecognisedEC => [0xEC#8]
  | .unrecognisedED => [0xED#8]
  | .xorAN n => opN 0xEE#8 n
  | .rst28 => [0xEF#8]
  | .ldhAIndN n => opN 0xF0#8 n
  | .popAf => [0xF1#8]
  | .ldhAIndC => [0xF2#8]
  | .di => [0xF3#8]
  | .unrecognisedF4 => [0xF4#8]
  | .pushAf => [0xF5#8]
  | .orAN n => opN 0xF6#8 n
  | .rst30 => [0xF7#8]
  | .ldHlSpD d => opN 0xF8#8 d
  | .ldSpHl => [0xF9#8]
  | .ldAIndNn nn => opNn 0xFA#8 nn
  | .ei => [0xFB#8]
  | .unrecognisedFC => [0xFC#8]
  | .unrecognisedFD => [0xFD#8]
  | .cpAN n => opN 0xFE#8 n
  | .rst38 => [0xFF#8]
  | .rlcR z => cb 0x00#8 z
  | .rrcR z => cb 0x08#8 z
  | .rlR z => cb 0x10#8 z
  | .rrR z => cb 0x18#8 z
  | .slaR z => cb 0x20#8 z
  | .sraR z => cb 0x28#8 z
  | .swapR z => cb 0x30#8 z
  | .srlR z => cb 0x38#8 z
  | .bit0 z => cb 0x40#8 z
  | .bit1 z => cb 0x48#8 z
  | .bit2 z => cb 0x50#8 z
  | .bit3 z => cb 0x58#8 z
  | .bit4 z => cb 0x60#8 z
  | .bit5 z => cb 0x68#8 z
  | .bit6 z => cb 0x70#8 z
  | .bit7 z => cb 0x78#8 z
  | .res0 z => cb 0x80#8 z
  | .res1 z => cb 0x88#8 z
  | .res2 z => cb 0x90#8 z
  | .res3 z => cb 0x98#8 z
  | .res4 z => cb 0xA0#8 z
  | .res5 z => cb 0xA8#8 z
  | .res6 z => cb 0xB0#8 z
  | .res7 z => cb 0xB8#8 z
  | .set0 z => cb 0xC0#8 z
  | .set1 z => cb 0xC8#8 z
  | .set2 z => cb 0xD0#8 z
  | .set3 z => cb 0xD8#8 z
  | .set4 z => cb 0xE0#8 z
  | .set5 z => cb 0xE8#8 z
  | .set6 z => cb 0xF0#8 z
  | .set7 z => cb 0xF8#8 z

end Sys2Proof
end

