-- ==== Sys2Proof/Machine/Flags.lean ====
section
/-! DEFINITION. The flags register F (10_state.md R24): bit 7 = Z, bit 6 = N, bit 5 = H, bit 4 = C. Every flag-writing
operation writes F through `flags`, which leaves bits 3 to 0 zero. -/

namespace Sys2Proof.Machine

/-- F.Z, bit 7 (R24). -/
def flagZ (f : Byte) : Bool := f.getLsbD 7

/-- F.N, bit 6 (R24). -/
def flagN (f : Byte) : Bool := f.getLsbD 6

/-- F.H, bit 5 (R24). -/
def flagH (f : Byte) : Bool := f.getLsbD 5

/-- F.C, bit 4 (R24). -/
def flagC (f : Byte) : Bool := f.getLsbD 4

/-- F.C as the number `cin` (40_bitops_alu.md, convention). -/
def carryIn (f : Byte) : Nat := (flagC f).toNat

/-- One flag at its bit position. -/
def flagBit (x : Bool) (i : Nat) : Byte := if x then 1#8 <<< i else 0#8

/-- `flags(z, n, h, c)`: `(z << 7) | (n << 6) | (h << 5) | (c << 4)` (00_scope.md R13, R24). -/
def flags (z n h c : Bool) : Byte := flagBit z 7 ||| flagBit n 6 ||| flagBit h 5 ||| flagBit c 4

end Sys2Proof.Machine
end

