-- ==== Sys2Proof/Machine/Alu.lean ====
section
/-! DEFINITION. The ALU (40_bitops_alu.md sections 3 to 9). An ALU function takes its operand values and, where a rule
reads it, the current F, and returns the result and the new F (R124). Sums and borrows are computed exactly on natural
numbers and narrowed at the end, so that carries are comparisons. -/

namespace Sys2Proof.Machine

/-- `add8` (R125). -/
def add8 (a b : Byte) : Byte × Byte :=
  let sum := a.toNat + b.toNat
  let res := BitVec.ofNat 8 sum
  (res, flags (res == 0) false (decide (nibble a + nibble b > 0xF)) (decide (sum > 0xFF)))

/-- `adc8` (R126): the incoming carry enters both the full sum and the nibble sum. -/
def adc8 (a b f : Byte) : Byte × Byte :=
  let sum := a.toNat + b.toNat + carryIn f
  let res := BitVec.ofNat 8 sum
  (res, flags (res == 0) false (decide (nibble a + nibble b + carryIn f > 0xF)) (decide (sum > 0xFF)))

/-- `sub8` (R127): no carry-in (90_conflicts.md C8, D25, log 12). -/
def sub8 (a b : Byte) : Byte × Byte :=
  let res := a - b
  (res, flags (res == 0) true (decide (nibble a < nibble b)) (decide (a.toNat < b.toNat)))

/-- `sbc8` (R128): the incoming carry is subtracted too, in the full difference and in the nibble borrow. -/
def sbc8 (a b f : Byte) : Byte × Byte :=
  let res := a - b - BitVec.ofNat 8 (carryIn f)
  (res, flags (res == 0) true (decide (nibble a < nibble b + carryIn f))
    (decide (a.toNat < b.toNat + carryIn f)))

/-- `cp8` (R129): the F of `sub8`; the first operand comes back unwritten. -/
def cp8 (a b : Byte) : Byte × Byte := (a, (sub8 a b).2)

/-- `and8` (R130): H is always set. -/
def and8 (a b : Byte) : Byte × Byte :=
  let res := a &&& b
  (res, flags (res == 0) false true false)

/-- `or8` (R131). -/
def or8 (a b : Byte) : Byte × Byte :=
  let res := a ||| b
  (res, flags (res == 0) false false false)

/-- `xor8` (R132). -/
def xor8 (a b : Byte) : Byte × Byte :=
  let res := a ^^^ b
  (res, flags (res == 0) false false false)

/-- The ALU table `al` (30_encoding.md R92): what an accumulator operation leaves in A and in F. -/
def aluApply (op : AluOp) (a b f : Byte) : Byte × Byte :=
  match op with
  | .add => add8 a b
  | .adc => adc8 a b f
  | .sub => sub8 a b
  | .sbc => sbc8 a b f
  | .and => and8 a b
  | .xor => xor8 a b
  | .or => or8 a b
  | .cp => cp8 a b

/-- `add16` (R133), with the Z it computes; ADD HL,rp does not keep that Z and JR keeps none of the flags. -/
def add16 (a b : Word) : Word × Byte :=
  let sum := a.toNat + b.toNat
  let res := BitVec.ofNat 16 sum
  (res, flags (res == 0) false (decide ((a &&& 0xFFF#16).toNat + (b &&& 0xFFF#16).toNat > 0xFFF))
    (decide (sum > 0xFFFF)))

/-- `addsp` (R134) under a setting of `SPD_FLAGS` (D13, log 4): Z and N are always cleared. -/
def addsp (m : SpdFlags) (s : Word) (b : Byte) : Word × Byte :=
  let d := sext16 b
  let res := s + d
  match m with
  | .byte => (res, flags false false (decide ((s &&& 0xF#16).toNat + nibble b > 0xF))
      (decide ((s &&& 0xFF#16).toNat + b.toNat > 0xFF)))
  | .word => (res, flags false false (decide ((s &&& 0xFFF#16).toNat + (d &&& 0xFFF#16).toNat > 0xFFF))
      (decide (s.toNat + d.toNat > 0xFFFF)))

/-- `inc8` (R135): C is passed through. -/
def inc8 (v f : Byte) : Byte × Byte :=
  let res := v + 1#8
  (res, flags (res == 0) false (nibble v == 0xF) (flagC f))

/-- `dec8` (R136): C is passed through. -/
def dec8 (v f : Byte) : Byte × Byte :=
  let res := v - 1#8
  (res, flags (res == 0) true (nibble v == 0x0) (flagC f))

/-- `inc16` (R137): no flags. -/
def inc16 (v : Word) : Word := v + 1#16

/-- `dec16` (R137): no flags. -/
def dec16 (v : Word) : Word := v - 1#16

/-- `flags(res == 0, 0, 0, out)` of the rotate family, `out` the bit shifted out (40_bitops_alu.md section 7). -/
def shiftFlags (res : Byte) (out : Bool) : Byte := flags (res == 0) false false out

/-- The carry flag as a byte with only bit 0, for the rotates through carry. -/
def carryByte (f : Byte) : Byte := BitVec.ofNat 8 (carryIn f)

/-- `rlc` (R138): bit 7 enters bit 0. -/
def rlc (v : Byte) : Byte × Byte :=
  let res := (v <<< 1) ||| (v >>> 7)
  (res, shiftFlags res (v.getLsbD 7))

/-- `rrc` (R139): bit 0 enters bit 7. -/
def rrc (v : Byte) : Byte × Byte :=
  let res := (v >>> 1) ||| (v <<< 7)
  (res, shiftFlags res (v.getLsbD 0))

/-- `rl` (R140): the old carry enters bit 0. -/
def rl (v f : Byte) : Byte × Byte :=
  let res := (v <<< 1) ||| carryByte f
  (res, shiftFlags res (v.getLsbD 7))

/-- `rr` (R141): the old carry enters bit 7. -/
def rr (v f : Byte) : Byte × Byte :=
  let res := (v >>> 1) ||| (carryByte f <<< 7)
  (res, shiftFlags res (v.getLsbD 0))

/-- `sla` (R142): zero enters bit 0. -/
def sla (v : Byte) : Byte × Byte :=
  let res := v <<< 1
  (res, shiftFlags res (v.getLsbD 7))

/-- `sra` (R143): bit 7 keeps its value. -/
def sra (v : Byte) : Byte × Byte :=
  let res := (v >>> 1) ||| (v &&& 0x80#8)
  (res, shiftFlags res (v.getLsbD 0))

/-- `srl` (R144): zero enters bit 7. -/
def srl (v : Byte) : Byte × Byte :=
  let res := v >>> 1
  (res, shiftFlags res (v.getLsbD 0))

/-- `swap` (R145): the nibbles change places; C is cleared. -/
def swap (v : Byte) : Byte × Byte :=
  let res := (v <<< 4) ||| (v >>> 4)
  (res, shiftFlags res false)

/-- The rotate table `rot` (30_encoding.md R93): the rotated value and the new F. -/
def rotApply (op : RotOp) (v f : Byte) : Byte × Byte :=
  match op with
  | .rlc => rlc v
  | .rrc => rrc v
  | .rl => rl v f
  | .rr => rr v f
  | .sla => sla v
  | .sra => sra v
  | .swap => swap v
  | .srl => srl v

/-- The accumulator forms (R146): the value of the rotate, with Z, N and H forced to zero. -/
def rotAccumulator (op : RotOp) (a f : Byte) : Byte × Byte :=
  let r := rotApply op a f
  (r.1, flags false false false (flagC r.2))

/-- `bit(i, v)` (R147): the new F; Z has the inverted sense, C is passed through. -/
def bitFlags (i : Fin 8) (v f : Byte) : Byte := flags (!testbit v i) false true (flagC f)

/-- `res(i, v)` (R148): no flags. -/
def resBit (i : Fin 8) (v : Byte) : Byte := clearbit v i.val

/-- `set(i, v)` (R149): no flags. -/
def setBit (i : Fin 8) (v : Byte) : Byte := setbit v i.val

/-- `daa(a)` (R150, constants D14, log 11): both tests are made on the uncorrected `a`. -/
def daa (a f : Byte) : Byte × Byte :=
  let low := flagH f || (!flagN f && decide (nibble a > 0x09))
  let high := flagC f || (!flagN f && decide (a.toNat > 0x99))
  let offset := (if low then 0x06#8 else 0#8) ||| (if high then 0x60#8 else 0#8)
  let res := if flagN f then a - offset else a + offset
  (res, flags (res == 0) (flagN f) false high)

/-- `cpl(a)` (R151). -/
def cpl (a f : Byte) : Byte × Byte := (a ^^^ 0xFF#8, flags (flagZ f) true true (flagC f))

/-- `scf` (R152). -/
def scf (f : Byte) : Byte := flags (flagZ f) false false true

/-- `ccf` (R153). -/
def ccf (f : Byte) : Byte := flags (flagZ f) false false (!flagC f)

end Sys2Proof.Machine
end

