-- ==== Sys2Proof/Machine/Cycles.lean ====
section
/-! DEFINITION. The cycle table `CYC` (70_reset_and_hazards.md R404), one constant per entry, in t-states. Those marked
(src) are the source's; the others are the spec's default of an open parameter, from general knowledge (D18, log 5),
except HALT's (D6, log 13). No instruction reads t (00_scope.md R15). -/

namespace Sys2Proof.Machine

/-- NOP (src, R220). -/
def cycNop : Nat := 4

/-- LD (nn),SP (R221). -/
def cycStoreSp : Nat := 20

/-- STOP (R222). -/
def cycStop : Nat := 4

/-- JR d, and JR cc,d when taken (R223, R224). -/
def cycJr : Nat := 12

/-- JR cc,d not taken (R224). -/
def cycJrNotTaken : Nat := 8

/-- LD rp,nn (R225). -/
def cycLdRpNn : Nat := 12

/-- ADD HL,rp (R226). -/
def cycAddHl : Nat := 8

/-- The eight loads and stores of A through BC, DE and HL (R227 to R234). -/
def cycLdIndirect : Nat := 8

/-- INC rp and DEC rp (R235, R236). -/
def cycIncDecRp : Nat := 8

/-- INC r and DEC r on a register (src, R237, R238). -/
def cycIncDecR : Nat := 4

/-- INC (HL) and DEC (HL) (src, R237, R238). -/
def cycIncDecMem : Nat := 12

/-- LD r,n (R239). -/
def cycLdRN : Nat := 8

/-- LD (HL),n (R239). -/
def cycLdMemN : Nat := 12

/-- RLCA, RRCA, RLA, RRA, DAA, CPL, SCF, CCF (R240 to R247). -/
def cycAccumulator : Nat := 4

/-- LD r,r' between registers (src, R270). -/
def cycLdRR : Nat := 4

/-- LD r,r' with (HL) (src, R270). -/
def cycLdMem : Nat := 8

/-- HALT (R271, D6, log 13). -/
def cycHalt : Nat := 8

/-- An ALU operation with a register (src, R280 to R287). -/
def cycAluR : Nat := 4

/-- An ALU operation with (HL) (src, R280 to R287). -/
def cycAluMem : Nat := 8

/-- An ALU operation with n (R321 to R328). -/
def cycAluN : Nat := 8

/-- RET cc taken (R300). -/
def cycRetTaken : Nat := 20

/-- RET cc not taken (R300). -/
def cycRetNotTaken : Nat := 8

/-- LDH (n),A and LDH A,(n) (R301, R303). -/
def cycLdhN : Nat := 12

/-- LDH (C),A and LDH A,(C) (R316, R318). -/
def cycLdhC : Nat := 8

/-- LD (nn),A and LD A,(nn) (R317, R319). -/
def cycLdAbs : Nat := 16

/-- ADD SP,d (R302). -/
def cycAddSp : Nat := 16

/-- LD HL,SP+d (R304). -/
def cycLdHlSp : Nat := 12

/-- POP (R305). -/
def cycPop : Nat := 12

/-- PUSH (R315). -/
def cycPush : Nat := 16

/-- RET and RETI (R306, R307). -/
def cycRet : Nat := 16

/-- JP HL (R308). -/
def cycJpHl : Nat := 4

/-- LD SP,HL (R309). -/
def cycLdSpHl : Nat := 8

/-- JP nn, and JP cc,nn when taken (R310, R311). -/
def cycJp : Nat := 16

/-- JP cc,nn not taken (R310). -/
def cycJpNotTaken : Nat := 12

/-- DI and EI (R312, R313). -/
def cycDiEi : Nat := 4

/-- CALL nn, and CALL cc,nn when taken (R314, R320). -/
def cycCall : Nat := 24

/-- CALL cc,nn not taken (R314). -/
def cycCallNotTaken : Nat := 12

/-- RST (R329). -/
def cycRst : Nat := 16

/-- A CB-prefixed instruction on a register (src, R190). -/
def cycCbR : Nat := 8

/-- A CB-prefixed instruction on (HL) (src, R190). -/
def cycCbMem : Nat := 16

end Sys2Proof.Machine
end

