-- ==== Sys2Proof/Machine/State.lean ====
section
/-! DEFINITION. The whole state of the block (10_state.md R20 to R31) as plain data, the reasons a step can stop, and
the state after reset. -/

namespace Sys2Proof.Machine

/-- Memory as (address, byte) pairs in canonical form (`Memory.wf` in Machine/Ops.lean): addresses strictly rising and
below 65536, no entry equal to what an unlisted address reads as. -/
abbrev Memory := List Host.Cell

/-- The state: eight 8-bit registers, SP, PC, the cycle counter t and the 65536-byte address space (10_state.md R20 to
R30). The block has no other state (R31). `extDraws` is the model's own: how many external writes have been drawn
(20_memory.md R66, log 6). -/
structure State where
  /-- The accumulator (R20). -/
  a : Byte
  /-- The flags register (R24). -/
  f : Byte
  b : Byte
  c : Byte
  d : Byte
  e : Byte
  h : Byte
  l : Byte
  /-- The stack pointer (R22). -/
  sp : Word
  /-- The program counter (R23). -/
  pc : Word
  /-- Remaining cycles of the instruction in flight, a natural number (R29). -/
  t : Nat
  /-- The address space (R30, R50). -/
  mem : Memory
  /-- The model's own counter of external-write draws (log 6). -/
  extDraws : Nat
  deriving DecidableEq, Repr

/-- Reasons to stop with a fault. There are none: the block raises nothing (60_exceptions.md R360) and `fault` is used
nowhere (93_implementation_defined.md). Nobody raises one; safe. -/
inductive Fault where
  deriving DecidableEq, Repr

/-- Reasons to give no meaning. -/
inductive Refusal where
  /-- An instruction of the table that has no meaning yet. Raised by `exec` only; safe. No arm raises it now. -/
  | notModelled (mnemonic : String)
  deriving DecidableEq, Repr

/-- What a meaning answers: for this block always a next state. -/
abbrev Result := Host.Outcome State Fault Refusal

/-- The state after reset: the spec's default of `LAUNCH` (10_state.md R33, 70_reset_and_hazards.md R391, D17, D23):
every register zero, t = 0, every byte of memory 0x00. DESIGN CHOICE of the spec (log 1); unsafe. -/
def State.reset : State where
  a := 0#8
  f := 0#8
  b := 0#8
  c := 0#8
  d := 0#8
  e := 0#8
  h := 0#8
  l := 0#8
  sp := 0#16
  pc := 0#16
  t := 0
  mem := []
  extDraws := 0

end Sys2Proof.Machine
end

