-- ==== Sys2Proof/Machine/Ops.lean ====
section
/-! DEFINITION. The named operations over memory, the stack and the program counter (20_memory.md, 41_primitives.md),
the instruction fetch and the agents outside the block. There is no operation that takes an exception and none that
returns from one: the block has neither (60_exceptions.md R360, R365, R367). -/

namespace Sys2Proof.Machine

/-! ## Memory -/

/-- What an address that is not listed reads as: 0x00, the spec's default launch image (70_reset_and_hazards.md R391,
R393, D17, D23). DESIGN CHOICE of the spec (log 1); unsafe. -/
def Memory.unlisted : Byte := 0x00#8

/-- The byte at a key: the first entry that has it. -/
def Memory.lookup : Memory → Nat → Byte
  | [], _ => Memory.unlisted
  | (k, v) :: m, a => if k = a then v else Memory.lookup m a

/-- Memory without any entry at a key. -/
def Memory.erase : Memory → Nat → Memory
  | [], _ => []
  | (k, v) :: m, a => if k = a then Memory.erase m a else (k, v) :: Memory.erase m a

/-- Memory with an entry put before the first larger key. -/
def Memory.insert : Memory → Nat → Byte → Memory
  | [], a, v => [(a, v)]
  | (k, w) :: m, a, v => if a < k then (a, v) :: (k, w) :: m else (k, w) :: Memory.insert m a v

/-- Memory with a byte stored at a key: writing what an unlisted address reads as removes the entry, so that equal
memories are equal data. -/
def Memory.store (m : Memory) (a : Nat) (v : Byte) : Memory :=
  if v = Memory.unlisted then Memory.erase m a else Memory.insert (Memory.erase m a) a v

/-- The canonical form: keys strictly rising, every key an address, no entry that reads as an unlisted address does. -/
abbrev Memory.wf (m : Memory) : Prop :=
  m.Pairwise (fun x y => x.1 < y.1) ∧ ∀ x ∈ m, x.1 < 65536 ∧ x.2 ≠ Memory.unlisted

/-- `MemRead(addr, 1)` (20_memory.md R53): every address is readable, nothing can fail. -/
def memRead (addr : Word) (s : State) : Byte := Memory.lookup s.mem addr.toNat

/-- `MemRead(addr, 2)` (R54): little-endian, addr + 1 modulo 65536 (D11, log 9). -/
def memRead16 (addr : Word) (s : State) : Word := compose (memRead (addr + 1#16) s) (memRead addr s)

/-- `MemWrite(addr, 1, v)` (R55): every address is writable. -/
def memWrite (addr : Word) (v : Byte) (s : State) : State := { s with mem := Memory.store s.mem addr.toNat v }

/-- `MemWrite(addr, 2, v)` (R56): the low byte at addr, then the high byte at addr + 1 modulo 65536 (D11, log 9). -/
def memWrite16 (addr : Word) (v : Word) (s : State) : State :=
  memWrite (addr + 1#16) (highByte v) (memWrite addr (lowByte v) s)

/-- The address of the high-page forms: 0xFF00 plus an unsigned byte (R70); it never wraps. -/
def highPage (n : Byte) : Word := 0xFF00#16 + zext16 n

/-! ## Program counter and cycles -/

/-- The end of every instruction that does not transfer control: PC moves past its bytes, modulo 65536 (D11, log 9), and
t takes its cycle count (00_scope.md R14). -/
def advance (len : Word) (cycles : Nat) (s : State) : State := { s with pc := s.pc + len, t := cycles }

/-- The end of every control transfer: `PC <- target` (41_primitives.md R171) and the cycle count. -/
def jumpTo (target : Word) (cycles : Nat) (s : State) : State := { s with pc := target, t := cycles }

/-- The target of JR (41_primitives.md R172, D12, log 10): PC0 + 2 + sext_16(b1), modulo 65536. -/
def jrTarget (d : Byte) (s : State) : Word := s.pc + 2#16 + sext16 d

/-! ## Stack -/

/-- `push16` (41_primitives.md R173). -/
def push16 (v : Word) (s : State) : State := memWrite16 (s.sp - 2#16) v { s with sp := s.sp - 2#16 }

/-- `push8` (41_primitives.md R174): a primitive of the source that no instruction uses (D28, log 25). -/
def push8 (v : Byte) (s : State) : State := memWrite (s.sp - 1#16) v { s with sp := s.sp - 1#16 }

/-- The value `pop16` returns (41_primitives.md R175). -/
def popValue (s : State) : Word := memRead16 s.sp s

/-- The state `pop16` leaves (41_primitives.md R175). -/
def popState (s : State) : State := { s with sp := s.sp + 2#16 }

/-! ## Fetch, load, and the agents outside the block -/

/-- The window b0, b1, b2 at PC, PC + 1, PC + 2, modulo 65536 (00_scope.md R8, D11, log 9). -/
def fetchWindow (s : State) : Byte × Byte × Byte :=
  (memRead s.pc s, memRead (s.pc + 1#16) s, memRead (s.pc + 2#16) s)

/-- Bytes stored at consecutive addresses, modulo 65536. -/
def storeBytes : List Byte → Word → State → State
  | [], _, s => s
  | v :: vs, addr, s => storeBytes vs (addr + 1#16) (memWrite addr v s)

/-- The loader, or the sparse list of the conformance protocol: bytes written before the first step
(70_reset_and_hazards.md R393, R394). It writes memory and nothing else. -/
def State.loadImage : State → List (Word × Byte) → State
  | s, [] => s
  | s, (addr, v) :: image => State.loadImage (memWrite addr v s) image

/-- `Tick` (00_scope.md R8): t becomes t - 1. -/
def tick (s : State) : State := { s with t := s.t - 1 }

/-- The external writer's opportunity at one address: it stores the byte it draws, or nothing (20_memory.md R66). -/
def externalWriteAt (addr : Word) (s : State) : State :=
  match Config.externalWrite s.extDraws addr with
  | some v => memWrite addr v { s with extDraws := s.extDraws + 1 }
  | none => { s with extDraws := s.extDraws + 1 }

/-- What external writers do between two transitions: one opportunity at each address of `EXT_WRITES`, and nothing where
that set is empty (20_memory.md R66, log 6). They never write a register (00_scope.md R9). -/
def externalWrites : List Word → State → State
  | [], s => s
  | addr :: addrs, s => externalWrites addrs (externalWriteAt addr s)

end Sys2Proof.Machine
end

