-- ==== Sys2Proof/Machine/Operands.lean ====
section
/-! DEFINITION. The operand tables as accessors of State: the pair views (10_state.md R21), `r` (R26), `rp` (R27), `rf`
(R28) and the conditions `cc` (30_encoding.md R91). -/

namespace Sys2Proof.Machine

/-- AF = A ‖ F (R21). -/
def pairAF (s : State) : Word := compose s.a s.f

/-- BC = B ‖ C (R21). -/
def pairBC (s : State) : Word := compose s.b s.c

/-- DE = D ‖ E (R21). -/
def pairDE (s : State) : Word := compose s.d s.e

/-- HL = H ‖ L (R21). -/
def pairHL (s : State) : Word := compose s.h s.l

/-- `AF <- v` (R21). -/
def setAF (v : Word) (s : State) : State := { s with a := highByte v, f := lowByte v }

/-- `BC <- v` (R21). -/
def setBC (v : Word) (s : State) : State := { s with b := highByte v, c := lowByte v }

/-- `DE <- v` (R21). -/
def setDE (v : Word) (s : State) : State := { s with d := highByte v, e := lowByte v }

/-- `HL <- v` (R21). -/
def setHL (v : Word) (s : State) : State := { s with h := highByte v, l := lowByte v }

/-- A read of `r[i]` (R26): index 6 reads the byte at HL. -/
def readR (r : R8) (s : State) : Byte :=
  match r with
  | .b => s.b
  | .c => s.c
  | .d => s.d
  | .e => s.e
  | .h => s.h
  | .l => s.l
  | .ind => memRead (pairHL s) s
  | .a => s.a

/-- `r[i] <- v` (R26): index 6 writes the byte at HL. -/
def writeR (r : R8) (v : Byte) (s : State) : State :=
  match r with
  | .b => { s with b := v }
  | .c => { s with c := v }
  | .d => { s with d := v }
  | .e => { s with e := v }
  | .h => { s with h := v }
  | .l => { s with l := v }
  | .ind => memWrite (pairHL s) v s
  | .a => { s with a := v }

/-- A read of `rp[i]` (R27). -/
def readRp (r : Rp) (s : State) : Word :=
  match r with
  | .bc => pairBC s
  | .de => pairDE s
  | .hl => pairHL s
  | .sp => s.sp

/-- `rp[i] <- v` (R27). -/
def writeRp (r : Rp) (v : Word) (s : State) : State :=
  match r with
  | .bc => setBC v s
  | .de => setDE v s
  | .hl => setHL v s
  | .sp => { s with sp := v }

/-- A read of `rf[i]` (R28). -/
def readRf (r : Rf) (s : State) : Word :=
  match r with
  | .bc => pairBC s
  | .de => pairDE s
  | .hl => pairHL s
  | .af => pairAF s

/-- `rf[i] <- v` (R28); POP masks the low nibble of F before it calls this (46_x3_block.md R305). -/
def writeRf (r : Rf) (v : Word) (s : State) : State :=
  match r with
  | .bc => setBC v s
  | .de => setDE v s
  | .hl => setHL v s
  | .af => setAF v s

/-- `cc[i]` on the F of a state (30_encoding.md R91). -/
def condition (cc : Cc) (s : State) : Bool :=
  match cc with
  | .nz => !flagZ s.f
  | .z => flagZ s.f
  | .nc => !flagC s.f
  | .c => flagC s.f

/-- A cycle count that depends on whether an `r` operand is the byte at HL. -/
def regOrMem (r : R8) (register memory : Nat) : Nat := if r = .ind then memory else register

end Sys2Proof.Machine
end

