-- ==== Sys2Proof/Machine/Accumulator.lean ====
section
/-! DEFINITION. The eight accumulator and flag operations of block x = 0, z = 7 (43_x0_block.md R240 to R247). -/

namespace Sys2Proof.Machine

/-- A and F take the two values, and the instruction ends: one byte long. -/
def withAF (res : Byte × Byte) (s : State) : State :=
  advance 1#16 cycAccumulator { s with a := res.1, f := res.2 }

/-- RLCA, RRCA, RLA, RRA (R240 to R243, 40_bitops_alu.md R146). -/
def rotateA (op : RotOp) (s : State) : State := withAF (rotAccumulator op s.a s.f) s

/-- RLCA (R240). -/
def execRlca (s : State) : Result := .next (rotateA .rlc s)

/-- RRCA (R241). -/
def execRrca (s : State) : Result := .next (rotateA .rrc s)

/-- RLA (R242). -/
def execRla (s : State) : Result := .next (rotateA .rl s)

/-- RRA (R243). -/
def execRra (s : State) : Result := .next (rotateA .rr s)

/-- DAA (R244). -/
def execDaa (s : State) : Result := .next (withAF (daa s.a s.f) s)

/-- CPL (R245). -/
def execCpl (s : State) : Result := .next (withAF (cpl s.a s.f) s)

/-- SCF (R246). -/
def execScf (s : State) : Result := .next (withAF (s.a, scf s.f) s)

/-- CCF (R247). -/
def execCcf (s : State) : Result := .next (withAF (s.a, ccf s.f) s)

end Sys2Proof.Machine
end

