-- ==== Sys2Proof/Machine/Arith16.lean ====
section
/-! DEFINITION. 16-bit arithmetic: ADD HL,rp, INC rp and DEC rp (43_x0_block.md R226, R235, R236), ADD SP,d
(46_x3_block.md R302). -/

namespace Sys2Proof.Machine

/-- ADD HL,rp[p] (R226): both operands are read before HL is written; Z keeps its value. -/
def addHl (r : Rp) (s : State) : State :=
  let res := add16 (pairHL s) (readRp r s)
  advance 1#16 cycAddHl (setHL res.1 { s with f := flags (flagZ s.f) (flagN res.2) (flagH res.2) (flagC res.2) })

/-- INC rp[p] (R235): F is not written. -/
def incRp (r : Rp) (s : State) : State := advance 1#16 cycIncDecRp (writeRp r (inc16 (readRp r s)) s)

/-- DEC rp[p] (R236): F is not written. -/
def decRp (r : Rp) (s : State) : State := advance 1#16 cycIncDecRp (writeRp r (dec16 (readRp r s)) s)

/-- ADD SP,d (R302) under a setting of `SPD_FLAGS`. -/
def addSpD (m : SpdFlags) (d : Byte) (s : State) : State :=
  advance 2#16 cycAddSp { s with sp := (addsp m s.sp d).1, f := (addsp m s.sp d).2 }

/-- INC BC (R235). -/
def execIncBc (s : State) : Result := .next (incRp .bc s)

/-- ADD HL,BC (R226). -/
def execAddHlBc (s : State) : Result := .next (addHl .bc s)

/-- DEC BC (R236). -/
def execDecBc (s : State) : Result := .next (decRp .bc s)

/-- INC DE (R235). -/
def execIncDe (s : State) : Result := .next (incRp .de s)

/-- ADD HL,DE (R226). -/
def execAddHlDe (s : State) : Result := .next (addHl .de s)

/-- DEC DE (R236). -/
def execDecDe (s : State) : Result := .next (decRp .de s)

/-- INC HL (R235). -/
def execIncHl (s : State) : Result := .next (incRp .hl s)

/-- ADD HL,HL (R226). -/
def execAddHlHl (s : State) : Result := .next (addHl .hl s)

/-- DEC HL (R236). -/
def execDecHl (s : State) : Result := .next (decRp .hl s)

/-- INC SP (R235). -/
def execIncSp (s : State) : Result := .next (incRp .sp s)

/-- ADD HL,SP (R226). -/
def execAddHlSp (s : State) : Result := .next (addHl .sp s)

/-- DEC SP (R236). -/
def execDecSp (s : State) : Result := .next (decRp .sp s)

/-- ADD SP,d (R302). -/
def execAddSpD (d : Byte) (s : State) : Result := .next (addSpD Config.spdFlags d s)

end Sys2Proof.Machine
end

