-- ==== Sys2Proof/Machine/Arith8.lean ====
section
/-! DEFINITION. 8-bit arithmetic and logic: the eight accumulator operations with r[z] (45_x2_alu_a_r.md R280 to R287) and
with n (46_x3_block.md R321 to R328), INC r and DEC r (43_x0_block.md R237, R238). -/

namespace Sys2Proof.Machine

/-- An accumulator operation with a second operand: A and F take what the operation leaves in them. -/
def aluA (op : AluOp) (v : Byte) (s : State) : State :=
  { s with a := (aluApply op s.a v s.f).1, f := (aluApply op s.a v s.f).2 }

/-- al[y] A,r[z] (R280 to R287). -/
def aluR (op : AluOp) (r : R8) (s : State) : State :=
  advance 1#16 (regOrMem r cycAluR cycAluMem) (aluA op (readR r s) s)

/-- al[y] A,n (R321 to R328). -/
def aluN (op : AluOp) (n : Byte) (s : State) : State := advance 2#16 cycAluN (aluA op n s)

/-- INC r[y] (R237). -/
def incR (r : R8) (s : State) : State :=
  let res := inc8 (readR r s) s.f
  advance 1#16 (regOrMem r cycIncDecR cycIncDecMem) (writeR r res.1 { s with f := res.2 })

/-- DEC r[y] (R238). -/
def decR (r : R8) (s : State) : State :=
  let res := dec8 (readR r s) s.f
  advance 1#16 (regOrMem r cycIncDecR cycIncDecMem) (writeR r res.1 { s with f := res.2 })

/-- INC B (R237). -/
def execIncB (s : State) : Result := .next (incR .b s)

/-- DEC B (R238). -/
def execDecB (s : State) : Result := .next (decR .b s)

/-- INC C (R237). -/
def execIncC (s : State) : Result := .next (incR .c s)

/-- DEC C (R238). -/
def execDecC (s : State) : Result := .next (decR .c s)

/-- INC D (R237). -/
def execIncD (s : State) : Result := .next (incR .d s)

/-- DEC D (R238). -/
def execDecD (s : State) : Result := .next (decR .d s)

/-- INC E (R237). -/
def execIncE (s : State) : Result := .next (incR .e s)

/-- DEC E (R238). -/
def execDecE (s : State) : Result := .next (decR .e s)

/-- INC H (R237). -/
def execIncH (s : State) : Result := .next (incR .h s)

/-- DEC H (R238). -/
def execDecH (s : State) : Result := .next (decR .h s)

/-- INC L (R237). -/
def execIncL (s : State) : Result := .next (incR .l s)

/-- DEC L (R238). -/
def execDecL (s : State) : Result := .next (decR .l s)

/-- INC (HL) (R237). -/
def execIncIndHl (s : State) : Result := .next (incR .ind s)

/-- DEC (HL) (R238). -/
def execDecIndHl (s : State) : Result := .next (decR .ind s)

/-- INC A (R237). -/
def execIncA (s : State) : Result := .next (incR .a s)

/-- DEC A (R238). -/
def execDecA (s : State) : Result := .next (decR .a s)

/-- ADD A,B (R280). -/
def execAddAB (s : State) : Result := .next (aluR .add .b s)

/-- ADD A,C (R280). -/
def execAddAC (s : State) : Result := .next (aluR .add .c s)

/-- ADD A,D (R280). -/
def execAddAD (s : State) : Result := .next (aluR .add .d s)

/-- ADD A,E (R280). -/
def execAddAE (s : State) : Result := .next (aluR .add .e s)

/-- ADD A,H (R280). -/
def execAddAH (s : State) : Result := .next (aluR .add .h s)

/-- ADD A,L (R280). -/
def execAddAL (s : State) : Result := .next (aluR .add .l s)

/-- ADD A,(HL) (R280). -/
def execAddAIndHl (s : State) : Result := .next (aluR .add .ind s)

/-- ADD A,A (R280). -/
def execAddAA (s : State) : Result := .next (aluR .add .a s)

/-- ADC A,B (R281). -/
def execAdcAB (s : State) : Result := .next (aluR .adc .b s)

/-- ADC A,C (R281). -/
def execAdcAC (s : State) : Result := .next (aluR .adc .c s)

/-- ADC A,D (R281). -/
def execAdcAD (s : State) : Result := .next (aluR .adc .d s)

/-- ADC A,E (R281). -/
def execAdcAE (s : State) : Result := .next (aluR .adc .e s)

/-- ADC A,H (R281). -/
def execAdcAH (s : State) : Result := .next (aluR .adc .h s)

/-- ADC A,L (R281). -/
def execAdcAL (s : State) : Result := .next (aluR .adc .l s)

/-- ADC A,(HL) (R281). -/
def execAdcAIndHl (s : State) : Result := .next (aluR .adc .ind s)

/-- ADC A,A (R281). -/
def execAdcAA (s : State) : Result := .next (aluR .adc .a s)

/-- SUB A,B (R282). -/
def execSubAB (s : State) : Result := .next (aluR .sub .b s)

/-- SUB A,C (R282). -/
def execSubAC (s : State) : Result := .next (aluR .sub .c s)

/-- SUB A,D (R282). -/
def execSubAD (s : State) : Result := .next (aluR .sub .d s)

/-- SUB A,E (R282). -/
def execSubAE (s : State) : Result := .next (aluR .sub .e s)

/-- SUB A,H (R282). -/
def execSubAH (s : State) : Result := .next (aluR .sub .h s)

/-- SUB A,L (R282). -/
def execSubAL (s : State) : Result := .next (aluR .sub .l s)

/-- SUB A,(HL) (R282). -/
def execSubAIndHl (s : State) : Result := .next (aluR .sub .ind s)

/-- SUB A,A (R282). -/
def execSubAA (s : State) : Result := .next (aluR .sub .a s)

/-- SBC A,B (R283). -/
def execSbcAB (s : State) : Result := .next (aluR .sbc .b s)

/-- SBC A,C (R283). -/
def execSbcAC (s : State) : Result := .next (aluR .sbc .c s)

/-- SBC A,D (R283). -/
def execSbcAD (s : State) : Result := .next (aluR .sbc .d s)

/-- SBC A,E (R283). -/
def execSbcAE (s : State) : Result := .next (aluR .sbc .e s)

/-- SBC A,H (R283). -/
def execSbcAH (s : State) : Result := .next (aluR .sbc .h s)

/-- SBC A,L (R283). -/
def execSbcAL (s : State) : Result := .next (aluR .sbc .l s)

/-- SBC A,(HL) (R283). -/
def execSbcAIndHl (s : State) : Result := .next (aluR .sbc .ind s)

/-- SBC A,A (R283). -/
def execSbcAA (s : State) : Result := .next (aluR .sbc .a s)

/-- AND A,B (R284). -/
def execAndAB (s : State) : Result := .next (aluR .and .b s)

/-- AND A,C (R284). -/
def execAndAC (s : State) : Result := .next (aluR .and .c s)

/-- AND A,D (R284). -/
def execAndAD (s : State) : Result := .next (aluR .and .d s)

/-- AND A,E (R284). -/
def execAndAE (s : State) : Result := .next (aluR .and .e s)

/-- AND A,H (R284). -/
def execAndAH (s : State) : Result := .next (aluR .and .h s)

/-- AND A,L (R284). -/
def execAndAL (s : State) : Result := .next (aluR .and .l s)

/-- AND A,(HL) (R284). -/
def execAndAIndHl (s : State) : Result := .next (aluR .and .ind s)

/-- AND A,A (R284). -/
def execAndAA (s : State) : Result := .next (aluR .and .a s)

/-- XOR A,B (R285). -/
def execXorAB (s : State) : Result := .next (aluR .xor .b s)

/-- XOR A,C (R285). -/
def execXorAC (s : State) : Result := .next (aluR .xor .c s)

/-- XOR A,D (R285). -/
def execXorAD (s : State) : Result := .next (aluR .xor .d s)

/-- XOR A,E (R285). -/
def execXorAE (s : State) : Result := .next (aluR .xor .e s)

/-- XOR A,H (R285). -/
def execXorAH (s : State) : Result := .next (aluR .xor .h s)

/-- XOR A,L (R285). -/
def execXorAL (s : State) : Result := .next (aluR .xor .l s)

/-- XOR A,(HL) (R285). -/
def execXorAIndHl (s : State) : Result := .next (aluR .xor .ind s)

/-- XOR A,A (R285). -/
def execXorAA (s : State) : Result := .next (aluR .xor .a s)

/-- OR A,B (R286). -/
def execOrAB (s : State) : Result := .next (aluR .or .b s)

/-- OR A,C (R286). -/
def execOrAC (s : State) : Result := .next (aluR .or .c s)

/-- OR A,D (R286). -/
def execOrAD (s : State) : Result := .next (aluR .or .d s)

/-- OR A,E (R286). -/
def execOrAE (s : State) : Result := .next (aluR .or .e s)

/-- OR A,H (R286). -/
def execOrAH (s : State) : Result := .next (aluR .or .h s)

/-- OR A,L (R286). -/
def execOrAL (s : State) : Result := .next (aluR .or .l s)

/-- OR A,(HL) (R286). -/
def execOrAIndHl (s : State) : Result := .next (aluR .or .ind s)

/-- OR A,A (R286). -/
def execOrAA (s : State) : Result := .next (aluR .or .a s)

/-- CP A,B (R287). -/
def execCpAB (s : State) : Result := .next (aluR .cp .b s)

/-- CP A,C (R287). -/
def execCpAC (s : State) : Result := .next (aluR .cp .c s)

/-- CP A,D (R287). -/
def execCpAD (s : State) : Result := .next (aluR .cp .d s)

/-- CP A,E (R287). -/
def execCpAE (s : State) : Result := .next (aluR .cp .e s)

/-- CP A,H (R287). -/
def execCpAH (s : State) : Result := .next (aluR .cp .h s)

/-- CP A,L (R287). -/
def execCpAL (s : State) : Result := .next (aluR .cp .l s)

/-- CP A,(HL) (R287). -/
def execCpAIndHl (s : State) : Result := .next (aluR .cp .ind s)

/-- CP A,A (R287). -/
def execCpAA (s : State) : Result := .next (aluR .cp .a s)

/-- ADD A,n (R321). -/
def execAddAN (n : Byte) (s : State) : Result := .next (aluN .add n s)

/-- ADC A,n (R322). -/
def execAdcAN (n : Byte) (s : State) : Result := .next (aluN .adc n s)

/-- SUB A,n (R323). -/
def execSubAN (n : Byte) (s : State) : Result := .next (aluN .sub n s)

/-- SBC A,n (R324). -/
def execSbcAN (n : Byte) (s : State) : Result := .next (aluN .sbc n s)

/-- AND A,n (R325). -/
def execAndAN (n : Byte) (s : State) : Result := .next (aluN .and n s)

/-- XOR A,n (R326). -/
def execXorAN (n : Byte) (s : State) : Result := .next (aluN .xor n s)

/-- OR A,n (R327). -/
def execOrAN (n : Byte) (s : State) : Result := .next (aluN .or n s)

/-- CP A,n (R328). -/
def execCpAN (n : Byte) (s : State) : Result := .next (aluN .cp n s)

end Sys2Proof.Machine
end

