-- ==== Sys2Proof/Machine/Cb.lean ====
section
/-! DEFINITION. The CB-prefixed instructions (42_cb_prefixed.md R190 to R201): rotates, shifts and SWAP, BIT, RES, SET on
r[z]. -/

namespace Sys2Proof.Machine

/-- The end of every CB instruction (R190): two bytes, 8 cycles, or 16 with (HL). -/
def finishCb (z : R8) (s : State) : State := advance 2#16 (regOrMem z cycCbR cycCbMem) s

/-- rot[y] r[z] (R191 to R198): the operand is read once and written once. -/
def rotateR (op : RotOp) (z : R8) (s : State) : State :=
  let res := rotApply op (readR z s) s.f
  finishCb z (writeR z res.1 { s with f := res.2 })

/-- BIT y,r[z] (R199): the operand is read and not written (D21, log 18). -/
def bitR (i : Fin 8) (z : R8) (s : State) : State := finishCb z { s with f := bitFlags i (readR z s) s.f }

/-- RES y,r[z] (R200): F is not written. -/
def resR (i : Fin 8) (z : R8) (s : State) : State := finishCb z (writeR z (resBit i (readR z s)) s)

/-- SET y,r[z] (R201): F is not written. -/
def setR (i : Fin 8) (z : R8) (s : State) : State := finishCb z (writeR z (setBit i (readR z s)) s)

/-- The row of the prefix byte with its sub-opcode: the CB map of R85 by the fields of b1 (log 20). -/
def prefixed (b1 : Byte) (s : State) : State :=
  match fieldX b1 with
  | 0 => rotateR (rotOf (fieldY b1)) (r8Of (fieldZ b1)) s
  | 1 => bitR (fieldY b1).toFin (r8Of (fieldZ b1)) s
  | 2 => resR (fieldY b1).toFin (r8Of (fieldZ b1)) s
  | 3 => setR (fieldY b1).toFin (r8Of (fieldZ b1)) s

/-- The row of the prefix 0xCB (R85). -/
def execPrefixCb (b1 : Byte) (s : State) : Result := .next (prefixed b1 s)

/-- RLC r[z] (R191). -/
def execRlcR (z : R8) (s : State) : Result := .next (rotateR .rlc z s)

/-- RRC r[z] (R192). -/
def execRrcR (z : R8) (s : State) : Result := .next (rotateR .rrc z s)

/-- RL r[z] (R193). -/
def execRlR (z : R8) (s : State) : Result := .next (rotateR .rl z s)

/-- RR r[z] (R194). -/
def execRrR (z : R8) (s : State) : Result := .next (rotateR .rr z s)

/-- SLA r[z] (R195). -/
def execSlaR (z : R8) (s : State) : Result := .next (rotateR .sla z s)

/-- SRA r[z] (R196). -/
def execSraR (z : R8) (s : State) : Result := .next (rotateR .sra z s)

/-- SWAP r[z] (R197). -/
def execSwapR (z : R8) (s : State) : Result := .next (rotateR .swap z s)

/-- SRL r[z] (R198). -/
def execSrlR (z : R8) (s : State) : Result := .next (rotateR .srl z s)

/-- BIT 0,r[z] (R199). -/
def execBit0 (z : R8) (s : State) : Result := .next (bitR 0 z s)

/-- BIT 1,r[z] (R199). -/
def execBit1 (z : R8) (s : State) : Result := .next (bitR 1 z s)

/-- BIT 2,r[z] (R199). -/
def execBit2 (z : R8) (s : State) : Result := .next (bitR 2 z s)

/-- BIT 3,r[z] (R199). -/
def execBit3 (z : R8) (s : State) : Result := .next (bitR 3 z s)

/-- BIT 4,r[z] (R199). -/
def execBit4 (z : R8) (s : State) : Result := .next (bitR 4 z s)

/-- BIT 5,r[z] (R199). -/
def execBit5 (z : R8) (s : State) : Result := .next (bitR 5 z s)

/-- BIT 6,r[z] (R199). -/
def execBit6 (z : R8) (s : State) : Result := .next (bitR 6 z s)

/-- BIT 7,r[z] (R199). -/
def execBit7 (z : R8) (s : State) : Result := .next (bitR 7 z s)

/-- RES 0,r[z] (R200). -/
def execRes0 (z : R8) (s : State) : Result := .next (resR 0 z s)

/-- RES 1,r[z] (R200). -/
def execRes1 (z : R8) (s : State) : Result := .next (resR 1 z s)

/-- RES 2,r[z] (R200). -/
def execRes2 (z : R8) (s : State) : Result := .next (resR 2 z s)

/-- RES 3,r[z] (R200). -/
def execRes3 (z : R8) (s : State) : Result := .next (resR 3 z s)

/-- RES 4,r[z] (R200). -/
def execRes4 (z : R8) (s : State) : Result := .next (resR 4 z s)

/-- RES 5,r[z] (R200). -/
def execRes5 (z : R8) (s : State) : Result := .next (resR 5 z s)

/-- RES 6,r[z] (R200). -/
def execRes6 (z : R8) (s : State) : Result := .next (resR 6 z s)

/-- RES 7,r[z] (R200). -/
def execRes7 (z : R8) (s : State) : Result := .next (resR 7 z s)

/-- SET 0,r[z] (R201). -/
def execSet0 (z : R8) (s : State) : Result := .next (setR 0 z s)

/-- SET 1,r[z] (R201). -/
def execSet1 (z : R8) (s : State) : Result := .next (setR 1 z s)

/-- SET 2,r[z] (R201). -/
def execSet2 (z : R8) (s : State) : Result := .next (setR 2 z s)

/-- SET 3,r[z] (R201). -/
def execSet3 (z : R8) (s : State) : Result := .next (setR 3 z s)

/-- SET 4,r[z] (R201). -/
def execSet4 (z : R8) (s : State) : Result := .next (setR 4 z s)

/-- SET 5,r[z] (R201). -/
def execSet5 (z : R8) (s : State) : Result := .next (setR 5 z s)

/-- SET 6,r[z] (R201). -/
def execSet6 (z : R8) (s : State) : Result := .next (setR 6 z s)

/-- SET 7,r[z] (R201). -/
def execSet7 (z : R8) (s : State) : Result := .next (setR 7 z s)

end Sys2Proof.Machine
end

