-- ==== Sys2Proof/Machine/Control.lean ====
section
/-! DEFINITION. NOP, STOP, HALT, DI, EI and the eleven unrecognised opcodes. The block has no halted or stopped state
and no interrupt-enable state (10_state.md R31, 60_exceptions.md R364, R368), so these change PC and t, or nothing. -/

namespace Sys2Proof.Machine

/-- STOP under a setting of `STOP_LEN` (43_x0_block.md R222, D7, log 3). -/
def stop (m : StopLen) (s : State) : State := advance (BitVec.ofNat 16 (stopLength m)) cycStop s

/-- An unrecognised opcode: every register, PC, t and all memory stay as they are (46_x3_block.md R340, 60_exceptions.md
R366, D5, log 16). -/
def stall (s : State) : State := s

/-- NOP (R220). -/
def execNop (s : State) : Result := .next (advance 1#16 cycNop s)

/-- STOP (R222). -/
def execStop (s : State) : Result := .next (stop Config.stopLen s)

/-- HALT (R271). -/
def execHalt (s : State) : Result := .next (advance 1#16 cycHalt s)

/-- Unrecognised opcode 0xD3 (R340). -/
def execUnrecognisedD3 (s : State) : Result := .next (stall s)

/-- Unrecognised opcode 0xDB (R340). -/
def execUnrecognisedDB (s : State) : Result := .next (stall s)

/-- Unrecognised opcode 0xDD (R340). -/
def execUnrecognisedDD (s : State) : Result := .next (stall s)

/-- Unrecognised opcode 0xE3 (R340). -/
def execUnrecognisedE3 (s : State) : Result := .next (stall s)

/-- Unrecognised opcode 0xE4 (R340). -/
def execUnrecognisedE4 (s : State) : Result := .next (stall s)

/-- Unrecognised opcode 0xEB (R340). -/
def execUnrecognisedEB (s : State) : Result := .next (stall s)

/-- Unrecognised opcode 0xEC (R340). -/
def execUnrecognisedEC (s : State) : Result := .next (stall s)

/-- Unrecognised opcode 0xED (R340). -/
def execUnrecognisedED (s : State) : Result := .next (stall s)

/-- DI (R312). -/
def execDi (s : State) : Result := .next (advance 1#16 cycDiEi s)

/-- Unrecognised opcode 0xF4 (R340). -/
def execUnrecognisedF4 (s : State) : Result := .next (stall s)

/-- EI (R313). -/
def execEi (s : State) : Result := .next (advance 1#16 cycDiEi s)

/-- Unrecognised opcode 0xFC (R340). -/
def execUnrecognisedFC (s : State) : Result := .next (stall s)

/-- Unrecognised opcode 0xFD (R340). -/
def execUnrecognisedFD (s : State) : Result := .next (stall s)

end Sys2Proof.Machine
end

