-- ==== Sys2Proof/Machine/Jumps.lean ====
section
/-! DEFINITION. Control transfer: JR, JP, CALL, RET, RETI, RST and their conditional forms (43_x0_block.md R223, R224,
46_x3_block.md R300, R306 to R308, R310, R311, R314, R320, R329; 41_primitives.md R171 to R179). A condition that is
false leaves an advance past the instruction (R179). PC is still PC0 when the return address is formed (D12, log 10). -/

namespace Sys2Proof.Machine

/-- JR cc,d (R224). -/
def jrCc (cc : Cc) (d : Byte) (s : State) : State :=
  if condition cc s then jumpTo (jrTarget d s) cycJr s else advance 2#16 cycJrNotTaken s

/-- JP cc,nn (R310). -/
def jpCc (cc : Cc) (nn : Word) (s : State) : State :=
  if condition cc s then jumpTo nn cycJp s else advance 3#16 cycJpNotTaken s

/-- CALL nn (R320, 41_primitives.md R177): the return address is PC0 + 3. -/
def call (nn : Word) (s : State) : State := jumpTo nn cycCall (push16 (s.pc + 3#16) s)

/-- CALL cc,nn (R314). -/
def callCc (cc : Cc) (nn : Word) (s : State) : State :=
  if condition cc s then call nn s else advance 3#16 cycCallNotTaken s

/-- The pop into PC of RET, RETI and a taken RET cc (41_primitives.md R176). -/
def ret (cycles : Nat) (s : State) : State := jumpTo (popValue s) cycles (popState s)

/-- RET cc (R300): not taken, it reads no memory and leaves SP alone. -/
def retCc (cc : Cc) (s : State) : State :=
  if condition cc s then ret cycRetTaken s else advance 1#16 cycRetNotTaken s

/-- RST to a fixed vector (R329, 41_primitives.md R178): the return address is PC0 + 1. -/
def rst (vector : Word) (s : State) : State := jumpTo vector cycRst (push16 (s.pc + 1#16) s)

/-- JR d (R223). -/
def execJrD (d : Byte) (s : State) : Result := .next (jumpTo (jrTarget d s) cycJr s)

/-- JR NZ,d (R224). -/
def execJrNzD (d : Byte) (s : State) : Result := .next (jrCc .nz d s)

/-- JR Z,d (R224). -/
def execJrZD (d : Byte) (s : State) : Result := .next (jrCc .z d s)

/-- JR NC,d (R224). -/
def execJrNcD (d : Byte) (s : State) : Result := .next (jrCc .nc d s)

/-- JR C,d (R224). -/
def execJrCD (d : Byte) (s : State) : Result := .next (jrCc .c d s)

/-- RET NZ (R300). -/
def execRetNz (s : State) : Result := .next (retCc .nz s)

/-- JP NZ,nn (R310). -/
def execJpNzNn (nn : Word) (s : State) : Result := .next (jpCc .nz nn s)

/-- JP nn (R311). -/
def execJpNn (nn : Word) (s : State) : Result := .next (jumpTo nn cycJp s)

/-- CALL NZ,nn (R314). -/
def execCallNzNn (nn : Word) (s : State) : Result := .next (callCc .nz nn s)

/-- RST 00H (R329). -/
def execRst00 (s : State) : Result := .next (rst 0x0000#16 s)

/-- RET Z (R300). -/
def execRetZ (s : State) : Result := .next (retCc .z s)

/-- RET (R306). -/
def execRet (s : State) : Result := .next (ret cycRet s)

/-- JP Z,nn (R310). -/
def execJpZNn (nn : Word) (s : State) : Result := .next (jpCc .z nn s)

/-- CALL Z,nn (R314). -/
def execCallZNn (nn : Word) (s : State) : Result := .next (callCc .z nn s)

/-- CALL nn (R320). -/
def execCallNn (nn : Word) (s : State) : Result := .next (call nn s)

/-- RST 08H (R329). -/
def execRst08 (s : State) : Result := .next (rst 0x0008#16 s)

/-- RET NC (R300). -/
def execRetNc (s : State) : Result := .next (retCc .nc s)

/-- JP NC,nn (R310). -/
def execJpNcNn (nn : Word) (s : State) : Result := .next (jpCc .nc nn s)

/-- CALL NC,nn (R314). -/
def execCallNcNn (nn : Word) (s : State) : Result := .next (callCc .nc nn s)

/-- RST 10H (R329). -/
def execRst10 (s : State) : Result := .next (rst 0x0010#16 s)

/-- RET C (R300). -/
def execRetC (s : State) : Result := .next (retCc .c s)

/-- RETI (R307). -/
def execReti (s : State) : Result := .next (ret cycRet s)

/-- JP C,nn (R310). -/
def execJpCNn (nn : Word) (s : State) : Result := .next (jpCc .c nn s)

/-- CALL C,nn (R314). -/
def execCallCNn (nn : Word) (s : State) : Result := .next (callCc .c nn s)

/-- RST 18H (R329). -/
def execRst18 (s : State) : Result := .next (rst 0x0018#16 s)

/-- RST 20H (R329). -/
def execRst20 (s : State) : Result := .next (rst 0x0020#16 s)

/-- JP HL (R308). -/
def execJpHl (s : State) : Result := .next (jumpTo (pairHL s) cycJpHl s)

/-- RST 28H (R329). -/
def execRst28 (s : State) : Result := .next (rst 0x0028#16 s)

/-- RST 30H (R329). -/
def execRst30 (s : State) : Result := .next (rst 0x0030#16 s)

/-- RST 38H (R329). -/
def execRst38 (s : State) : Result := .next (rst 0x0038#16 s)

end Sys2Proof.Machine
end

