-- ==== Sys2Proof/Machine/Loads.lean ====
section
/-! DEFINITION. The 8-bit loads: LD r,r' (44_x1_ld_r_r.md R270), LD r,n (43_x0_block.md R239), the loads and stores of A
through BC, DE and HL (R227 to R234), LDH and LD (nn) (46_x3_block.md R301, R303, R316 to R319). None writes F. -/

namespace Sys2Proof.Machine

/-- LD r[y],r[z] (R270): the source is read before the destination is written. -/
def ldRR (dst src : R8) (s : State) : State :=
  advance 1#16 (if dst = .ind ∨ src = .ind then cycLdMem else cycLdRR) (writeR dst (readR src s) s)

/-- LD r[y],n (R239). -/
def ldRN (dst : R8) (n : Byte) (s : State) : State :=
  advance 2#16 (regOrMem dst cycLdRN cycLdMemN) (writeR dst n s)

/-- A store of A at an address, and the end of the instruction. -/
def storeA (addr : Word) (len : Word) (cycles : Nat) (s : State) : State := advance len cycles (memWrite addr s.a s)

/-- A load of A from an address, and the end of the instruction. -/
def loadA (addr : Word) (len : Word) (cycles : Nat) (s : State) : State :=
  advance len cycles (writeR .a (memRead addr s) s)

/-- LD (BC),A (R227). -/
def execLdIndBcA (s : State) : Result := .next (storeA (pairBC s) 1#16 cycLdIndirect s)

/-- LD B,n (R239). -/
def execLdBN (n : Byte) (s : State) : Result := .next (ldRN .b n s)

/-- LD A,(BC) (R231). -/
def execLdAIndBc (s : State) : Result := .next (loadA (pairBC s) 1#16 cycLdIndirect s)

/-- LD C,n (R239). -/
def execLdCN (n : Byte) (s : State) : Result := .next (ldRN .c n s)

/-- LD (DE),A (R228). -/
def execLdIndDeA (s : State) : Result := .next (storeA (pairDE s) 1#16 cycLdIndirect s)

/-- LD D,n (R239). -/
def execLdDN (n : Byte) (s : State) : Result := .next (ldRN .d n s)

/-- LD A,(DE) (R232). -/
def execLdAIndDe (s : State) : Result := .next (loadA (pairDE s) 1#16 cycLdIndirect s)

/-- LD E,n (R239). -/
def execLdEN (n : Byte) (s : State) : Result := .next (ldRN .e n s)

/-- LD (HL+),A (R229). -/
def execLdIndHlIncA (s : State) : Result := .next (setHL (inc16 (pairHL s)) (storeA (pairHL s) 1#16 cycLdIndirect s))

/-- LD H,n (R239). -/
def execLdHN (n : Byte) (s : State) : Result := .next (ldRN .h n s)

/-- LD A,(HL+) (R233). -/
def execLdAIndHlInc (s : State) : Result := .next (setHL (inc16 (pairHL s)) (loadA (pairHL s) 1#16 cycLdIndirect s))

/-- LD L,n (R239). -/
def execLdLN (n : Byte) (s : State) : Result := .next (ldRN .l n s)

/-- LD (HL-),A (R230). -/
def execLdIndHlDecA (s : State) : Result := .next (setHL (dec16 (pairHL s)) (storeA (pairHL s) 1#16 cycLdIndirect s))

/-- LD (HL),n (R239). -/
def execLdIndHlN (n : Byte) (s : State) : Result := .next (ldRN .ind n s)

/-- LD A,(HL-) (R234). -/
def execLdAIndHlDec (s : State) : Result := .next (setHL (dec16 (pairHL s)) (loadA (pairHL s) 1#16 cycLdIndirect s))

/-- LD A,n (R239). -/
def execLdAN (n : Byte) (s : State) : Result := .next (ldRN .a n s)

/-- LD B,B (R270). -/
def execLdBB (s : State) : Result := .next (ldRR .b .b s)

/-- LD B,C (R270). -/
def execLdBC (s : State) : Result := .next (ldRR .b .c s)

/-- LD B,D (R270). -/
def execLdBD (s : State) : Result := .next (ldRR .b .d s)

/-- LD B,E (R270). -/
def execLdBE (s : State) : Result := .next (ldRR .b .e s)

/-- LD B,H (R270). -/
def execLdBH (s : State) : Result := .next (ldRR .b .h s)

/-- LD B,L (R270). -/
def execLdBL (s : State) : Result := .next (ldRR .b .l s)

/-- LD B,(HL) (R270). -/
def execLdBIndHl (s : State) : Result := .next (ldRR .b .ind s)

/-- LD B,A (R270). -/
def execLdBA (s : State) : Result := .next (ldRR .b .a s)

/-- LD C,B (R270). -/
def execLdCB (s : State) : Result := .next (ldRR .c .b s)

/-- LD C,C (R270). -/
def execLdCC (s : State) : Result := .next (ldRR .c .c s)

/-- LD C,D (R270). -/
def execLdCD (s : State) : Result := .next (ldRR .c .d s)

/-- LD C,E (R270). -/
def execLdCE (s : State) : Result := .next (ldRR .c .e s)

/-- LD C,H (R270). -/
def execLdCH (s : State) : Result := .next (ldRR .c .h s)

/-- LD C,L (R270). -/
def execLdCL (s : State) : Result := .next (ldRR .c .l s)

/-- LD C,(HL) (R270). -/
def execLdCIndHl (s : State) : Result := .next (ldRR .c .ind s)

/-- LD C,A (R270). -/
def execLdCA (s : State) : Result := .next (ldRR .c .a s)

/-- LD D,B (R270). -/
def execLdDB (s : State) : Result := .next (ldRR .d .b s)

/-- LD D,C (R270). -/
def execLdDC (s : State) : Result := .next (ldRR .d .c s)

/-- LD D,D (R270). -/
def execLdDD (s : State) : Result := .next (ldRR .d .d s)

/-- LD D,E (R270). -/
def execLdDE (s : State) : Result := .next (ldRR .d .e s)

/-- LD D,H (R270). -/
def execLdDH (s : State) : Result := .next (ldRR .d .h s)

/-- LD D,L (R270). -/
def execLdDL (s : State) : Result := .next (ldRR .d .l s)

/-- LD D,(HL) (R270). -/
def execLdDIndHl (s : State) : Result := .next (ldRR .d .ind s)

/-- LD D,A (R270). -/
def execLdDA (s : State) : Result := .next (ldRR .d .a s)

/-- LD E,B (R270). -/
def execLdEB (s : State) : Result := .next (ldRR .e .b s)

/-- LD E,C (R270). -/
def execLdEC (s : State) : Result := .next (ldRR .e .c s)

/-- LD E,D (R270). -/
def execLdED (s : State) : Result := .next (ldRR .e .d s)

/-- LD E,E (R270). -/
def execLdEE (s : State) : Result := .next (ldRR .e .e s)

/-- LD E,H (R270). -/
def execLdEH (s : State) : Result := .next (ldRR .e .h s)

/-- LD E,L (R270). -/
def execLdEL (s : State) : Result := .next (ldRR .e .l s)

/-- LD E,(HL) (R270). -/
def execLdEIndHl (s : State) : Result := .next (ldRR .e .ind s)

/-- LD E,A (R270). -/
def execLdEA (s : State) : Result := .next (ldRR .e .a s)

/-- LD H,B (R270). -/
def execLdHB (s : State) : Result := .next (ldRR .h .b s)

/-- LD H,C (R270). -/
def execLdHC (s : State) : Result := .next (ldRR .h .c s)

/-- LD H,D (R270). -/
def execLdHD (s : State) : Result := .next (ldRR .h .d s)

/-- LD H,E (R270). -/
def execLdHE (s : State) : Result := .next (ldRR .h .e s)

/-- LD H,H (R270). -/
def execLdHH (s : State) : Result := .next (ldRR .h .h s)

/-- LD H,L (R270). -/
def execLdHL (s : State) : Result := .next (ldRR .h .l s)

/-- LD H,(HL) (R270). -/
def execLdHIndHl (s : State) : Result := .next (ldRR .h .ind s)

/-- LD H,A (R270). -/
def execLdHA (s : State) : Result := .next (ldRR .h .a s)

/-- LD L,B (R270). -/
def execLdLB (s : State) : Result := .next (ldRR .l .b s)

/-- LD L,C (R270). -/
def execLdLC (s : State) : Result := .next (ldRR .l .c s)

/-- LD L,D (R270). -/
def execLdLD (s : State) : Result := .next (ldRR .l .d s)

/-- LD L,E (R270). -/
def execLdLE (s : State) : Result := .next (ldRR .l .e s)

/-- LD L,H (R270). -/
def execLdLH (s : State) : Result := .next (ldRR .l .h s)

/-- LD L,L (R270). -/
def execLdLL (s : State) : Result := .next (ldRR .l .l s)

/-- LD L,(HL) (R270). -/
def execLdLIndHl (s : State) : Result := .next (ldRR .l .ind s)

/-- LD L,A (R270). -/
def execLdLA (s : State) : Result := .next (ldRR .l .a s)

/-- LD (HL),B (R270). -/
def execLdIndHlB (s : State) : Result := .next (ldRR .ind .b s)

/-- LD (HL),C (R270). -/
def execLdIndHlC (s : State) : Result := .next (ldRR .ind .c s)

/-- LD (HL),D (R270). -/
def execLdIndHlD (s : State) : Result := .next (ldRR .ind .d s)

/-- LD (HL),E (R270). -/
def execLdIndHlE (s : State) : Result := .next (ldRR .ind .e s)

/-- LD (HL),H (R270). -/
def execLdIndHlH (s : State) : Result := .next (ldRR .ind .h s)

/-- LD (HL),L (R270). -/
def execLdIndHlL (s : State) : Result := .next (ldRR .ind .l s)

/-- LD (HL),A (R270). -/
def execLdIndHlA (s : State) : Result := .next (ldRR .ind .a s)

/-- LD A,B (R270). -/
def execLdAB (s : State) : Result := .next (ldRR .a .b s)

/-- LD A,C (R270). -/
def execLdAC (s : State) : Result := .next (ldRR .a .c s)

/-- LD A,D (R270). -/
def execLdAD (s : State) : Result := .next (ldRR .a .d s)

/-- LD A,E (R270). -/
def execLdAE (s : State) : Result := .next (ldRR .a .e s)

/-- LD A,H (R270). -/
def execLdAH (s : State) : Result := .next (ldRR .a .h s)

/-- LD A,L (R270). -/
def execLdAL (s : State) : Result := .next (ldRR .a .l s)

/-- LD A,(HL) (R270). -/
def execLdAIndHl (s : State) : Result := .next (ldRR .a .ind s)

/-- LD A,A (R270). -/
def execLdAA (s : State) : Result := .next (ldRR .a .a s)

/-- LDH (n),A (R301). -/
def execLdhIndNA (n : Byte) (s : State) : Result := .next (storeA (highPage n) 2#16 cycLdhN s)

/-- LDH (C),A (R316). -/
def execLdhIndCA (s : State) : Result := .next (storeA (highPage s.c) 1#16 cycLdhC s)

/-- LD (nn),A (R317). -/
def execLdIndNnA (nn : Word) (s : State) : Result := .next (storeA nn 3#16 cycLdAbs s)

/-- LDH A,(n) (R303). -/
def execLdhAIndN (n : Byte) (s : State) : Result := .next (loadA (highPage n) 2#16 cycLdhN s)

/-- LDH A,(C) (R318). -/
def execLdhAIndC (s : State) : Result := .next (loadA (highPage s.c) 1#16 cycLdhC s)

/-- LD A,(nn) (R319). -/
def execLdAIndNn (nn : Word) (s : State) : Result := .next (loadA nn 3#16 cycLdAbs s)

end Sys2Proof.Machine
end

