-- ==== Sys2Proof/Machine/Loads16.lean ====
section
/-! DEFINITION. The 16-bit loads and the stack: LD rp,nn and LD (nn),SP (43_x0_block.md R225, R221), LD SP,HL, LD HL,SP+d,
POP and PUSH (46_x3_block.md R309, R304, R305, R315). -/

namespace Sys2Proof.Machine

/-- LD rp[p],nn (R225). -/
def ldRpNn (r : Rp) (nn : Word) (s : State) : State := advance 3#16 cycLdRpNn (writeRp r nn s)

/-- LD HL,SP+d (R304) under a setting of `SPD_FLAGS`: SP is not changed. -/
def ldHlSpD (m : SpdFlags) (d : Byte) (s : State) : State :=
  advance 2#16 cycLdHlSp (setHL (addsp m s.sp d).1 { s with f := (addsp m s.sp d).2 })

/-- PUSH rf[p] (R315): F is stored as it is, unmasked. -/
def pushRf (r : Rf) (s : State) : State := advance 1#16 cycPush (push16 (readRf r s) s)

/-- The value POP puts in its pair: the low nibble of F is masked to zero (R305). -/
def popMask (r : Rf) (v : Word) : Word := if r = .af then v &&& 0xFFF0#16 else v

/-- POP rf[p] (R305). -/
def popRf (r : Rf) (s : State) : State := advance 1#16 cycPop (writeRf r (popMask r (popValue s)) (popState s))

/-- LD BC,nn (R225). -/
def execLdBcNn (nn : Word) (s : State) : Result := .next (ldRpNn .bc nn s)

/-- LD (nn),SP (R221). -/
def execLdIndNnSp (nn : Word) (s : State) : Result := .next (advance 3#16 cycStoreSp (memWrite16 nn s.sp s))

/-- LD DE,nn (R225). -/
def execLdDeNn (nn : Word) (s : State) : Result := .next (ldRpNn .de nn s)

/-- LD HL,nn (R225). -/
def execLdHlNn (nn : Word) (s : State) : Result := .next (ldRpNn .hl nn s)

/-- LD SP,nn (R225). -/
def execLdSpNn (nn : Word) (s : State) : Result := .next (ldRpNn .sp nn s)

/-- POP BC (R305). -/
def execPopBc (s : State) : Result := .next (popRf .bc s)

/-- PUSH BC (R315). -/
def execPushBc (s : State) : Result := .next (pushRf .bc s)

/-- POP DE (R305). -/
def execPopDe (s : State) : Result := .next (popRf .de s)

/-- PUSH DE (R315). -/
def execPushDe (s : State) : Result := .next (pushRf .de s)

/-- POP HL (R305). -/
def execPopHl (s : State) : Result := .next (popRf .hl s)

/-- PUSH HL (R315). -/
def execPushHl (s : State) : Result := .next (pushRf .hl s)

/-- POP AF (R305). -/
def execPopAf (s : State) : Result := .next (popRf .af s)

/-- PUSH AF (R315). -/
def execPushAf (s : State) : Result := .next (pushRf .af s)

/-- LD HL,SP+d (R304). -/
def execLdHlSpD (d : Byte) (s : State) : Result := .next (ldHlSpD Config.spdFlags d s)

/-- LD SP,HL (R309). -/
def execLdSpHl (s : State) : Result := .next (advance 1#16 cycLdSpHl (writeRp .sp (pairHL s) s))

end Sys2Proof.Machine
end

