-- ==== Sys2Proof/Machine/Step.lean ====
section
/-! DEFINITION. One transition of the architectural machine: the core composed with a driver that keeps its contract
(00_scope.md R8, 70_reset_and_hazards.md R403). -/

namespace Sys2Proof.Machine

/-- `Execute(b0, b1, b2, b3)` (30_encoding.md R84), defined on any window and for every t (00_scope.md R8,
70_reset_and_hazards.md R401); b3 is never read (R7, D27, log 23). A window the decoder refuses is an unrecognised
opcode: nothing changes (R95, R340). -/
def execute (b0 b1 b2 _b3 : Byte) (s : State) : Host.Outcome State Fault Refusal :=
  match decodeWindow b0 b1 b2 with
  | .ok i => exec i s
  | .error _ => .next (stall s)

/-- The driver's part of one transition (R8, R403, D19, log 17): `Step` at t = 0, on the window at PC with b3 = 0, and
`Tick` at t > 0. -/
def coreStep (s : State) : Host.Outcome State Fault Refusal :=
  if s.t = 0 then execute (fetchWindow s).1 (fetchWindow s).2.1 (fetchWindow s).2.2 0#8 s
  else .next (tick s)

/-- One transition: what external writers do first (20_memory.md R66, nothing by default, log 6), then the core. -/
def step (s : State) : Host.Outcome State Fault Refusal := coreStep (externalWrites Config.extWrites s)

/-- `s` with an instruction (its bits in the table's numbering, zeros above `nbits`) at PC and t = 0, so that the next
step is a `Step` that fetches and runs it. It stands for the load of a program, which comes from outside the machine
(70_reset_and_hazards.md R394, log 22). -/
def State.withFetchWord (s : State) (nbits w : Nat) : State :=
  storeBytes (tableBytes nbits w) s.pc { s with t := 0 }

end Sys2Proof.Machine
end

