-- ==== Sys2Proof/Safety.lean ====
section
/-! DEFINITION. What counts as a legal state and a safe run, in the terms the claims use. -/

namespace Sys2Proof.Machine

/-- The canonical form of memory: equal memories are equal data. -/
abbrev State.memOk (s : State) : Prop := Memory.wf s.mem

/-- F[3:0] = 0 (10_state.md R24): true of every run whose launch state has it, and not assumed of a launch state (D16,
log 19). -/
abbrev State.flagsOk (s : State) : Prop := s.f.extractLsb' 0 4 = 0#4

/-- t is at most 24, the largest value Execute writes (10_state.md R29). -/
abbrev State.cyclesOk (s : State) : Prop := s.t ≤ 24

/-- The invariant that every transition keeps and reset has. -/
abbrev State.Inv (s : State) : Prop := s.memOk ∧ s.flagsOk ∧ s.cyclesOk

/-- The stall (60_exceptions.md R366): a Step is enabled and leaves the state as it is. -/
abbrev State.stalled (s : State) : Prop := s.t = 0 ∧ coreStep s = .next s

end Sys2Proof.Machine
end

