-- ==== Sys2Proof/Certificates/Slice0/Obligations.lean ====
section
/-! DEFINITION. The statements for the provers. Results are stated in the spec's own terms: sums and borrows on numbers,
flags one by one as bits of F, rotates as arithmetic on the byte. A statement whose next state is written out as an
update of `s` says with it that every field not named is unchanged. -/

namespace Sys2Proof.Claims

open Sys2Proof.Machine

/-- F[7], F[6], F[5], F[4] are Z, N, H, C, and F[3:0] = 0 (10_state.md R24). -/
def FlagsAre (f : Byte) (z n h c : Prop) : Prop :=
  (f.getLsbD 7 = true ↔ z) ∧ (f.getLsbD 6 = true ↔ n) ∧ (f.getLsbD 5 = true ↔ h) ∧
    (f.getLsbD 4 = true ↔ c) ∧ f.extractLsb' 0 4 = 0#4

/-- F.Z is set. -/
def Zset (f : Byte) : Prop := f.getLsbD 7 = true

/-- F.N is set. -/
def Nset (f : Byte) : Prop := f.getLsbD 6 = true

/-- F.H is set. -/
def Hset (f : Byte) : Prop := f.getLsbD 5 = true

/-- F.C is set. -/
def Cset (f : Byte) : Prop := f.getLsbD 4 = true

/-- The incoming carry as a number. -/
def cin (f : Byte) : Nat := if f.getLsbD 4 then 1 else 0

/-- The index of an operation in table `al` (30_encoding.md R92). -/
def alIndex : AluOp → Nat
  | .add => 0 | .adc => 1 | .sub => 2 | .sbc => 3 | .and => 4 | .xor => 5 | .or => 6 | .cp => 7

/-- The index of a rotate in table `rot` (30_encoding.md R93). -/
def rotIndex : RotOp → Nat
  | .rlc => 0 | .rrc => 1 | .rl => 2 | .rr => 3 | .sla => 4 | .sra => 5 | .swap => 6 | .srl => 7

/-- What an accumulator operation on `a` and `b` leaves in A (`r`) and in F (40_bitops_alu.md R125 to R132). -/
def AluLeaves (op : AluOp) (a b : Byte) (carry : Nat) (r f : Byte) : Prop :=
  match op with
  | .add => r.toNat = (a.toNat + b.toNat) % 256 ∧
      FlagsAre f (r = 0#8) False (a.toNat % 16 + b.toNat % 16 > 0xF) (a.toNat + b.toNat > 0xFF)
  | .adc => r.toNat = (a.toNat + b.toNat + carry) % 256 ∧
      FlagsAre f (r = 0#8) False (a.toNat % 16 + b.toNat % 16 + carry > 0xF) (a.toNat + b.toNat + carry > 0xFF)
  | .sub => (r.toNat : Int) = ((a.toNat : Int) - b.toNat) % 256 ∧
      FlagsAre f (r = 0#8) True (a.toNat % 16 < b.toNat % 16) (a.toNat < b.toNat)
  | .sbc => (r.toNat : Int) = ((a.toNat : Int) - b.toNat - carry) % 256 ∧
      FlagsAre f (r = 0#8) True (((a.toNat % 16 : Nat) : Int) - (b.toNat % 16 : Nat) - carry < 0)
        ((a.toNat : Int) - b.toNat - carry < 0)
  | .and => (∀ i, r.getLsbD i = (a.getLsbD i && b.getLsbD i)) ∧ FlagsAre f (r = 0#8) False True False
  | .xor => (∀ i, r.getLsbD i = (a.getLsbD i != b.getLsbD i)) ∧ FlagsAre f (r = 0#8) False False False
  | .or => (∀ i, r.getLsbD i = (a.getLsbD i || b.getLsbD i)) ∧ FlagsAre f (r = 0#8) False False False
  | .cp => r = a ∧ FlagsAre f (a = b) True (a.toNat % 16 < b.toNat % 16) (a.toNat < b.toNat)

/-- The byte a rotate or shift makes of a byte, as arithmetic (40_bitops_alu.md R138 to R145). -/
def rotated (op : RotOp) (v carry : Nat) : Nat :=
  match op with
  | .rlc => (2 * v) % 256 + v / 128
  | .rrc => v / 2 + 128 * (v % 2)
  | .rl => (2 * v + carry) % 256
  | .rr => v / 2 + 128 * carry
  | .sla => (2 * v) % 256
  | .sra => v / 2 + 128 * (v / 128)
  | .swap => 16 * (v % 16) + v / 16
  | .srl => v / 2

/-- The bit it shifts out, which goes to C; SWAP clears C. -/
def shiftedOut (op : RotOp) (v : Nat) : Nat :=
  match op with
  | .rlc | .rl | .sla => v / 128
  | .rrc | .rr | .sra | .srl => v % 2
  | .swap => 0

/-- The eleven unrecognised opcodes (30_encoding.md R95). -/
def unrecognisedOpcodes : List Byte :=
  [0xD3#8, 0xDB#8, 0xDD#8, 0xE3#8, 0xE4#8, 0xEB#8, 0xEC#8, 0xED#8, 0xF4#8, 0xFC#8, 0xFD#8]

/-- The constructors of those opcodes. -/
def unrecognisedInstrs : List Instr :=
  [.unrecognisedD3, .unrecognisedDB, .unrecognisedDD, .unrecognisedE3, .unrecognisedE4, .unrecognisedEB,
    .unrecognisedEC, .unrecognisedED, .unrecognisedF4, .unrecognisedFC, .unrecognisedFD]

/-- The length table of 30_encoding.md R102 by high and low nibble; 0 stands for its `-`, 2 for its `S`. -/
def lengthTable : List (List Nat) :=
  [ [1, 3, 1, 1, 1, 1, 2, 1, 3, 1, 1, 1, 1, 1, 2, 1],
    [2, 3, 1, 1, 1, 1, 2, 1, 2, 1, 1, 1, 1, 1, 2, 1],
    [2, 3, 1, 1, 1, 1, 2, 1, 2, 1, 1, 1, 1, 1, 2, 1],
    [2, 3, 1, 1, 1, 1, 2, 1, 2, 1, 1, 1, 1, 1, 2, 1],
    [1, 1, 1, 1, 1, 1, 1, 1, 1, 1, 1, 1, 1, 1, 1, 1],
    [1, 1, 1, 1, 1, 1, 1, 1, 1, 1, 1, 1, 1, 1, 1, 1],
    [1, 1, 1, 1, 1, 1, 1, 1, 1, 1, 1, 1, 1, 1, 1, 1],
    [1, 1, 1, 1, 1, 1, 1, 1, 1, 1, 1, 1, 1, 1, 1, 1],
    [1, 1, 1, 1, 1, 1, 1, 1, 1, 1, 1, 1, 1, 1, 1, 1],
    [1, 1, 1, 1, 1, 1, 1, 1, 1, 1, 1, 1, 1, 1, 1, 1],
    [1, 1, 1, 1, 1, 1, 1, 1, 1, 1, 1, 1, 1, 1, 1, 1],
    [1, 1, 1, 1, 1, 1, 1, 1, 1, 1, 1, 1, 1, 1, 1, 1],
    [1, 1, 3, 3, 3, 1, 2, 1, 1, 1, 3, 2, 3, 3, 2, 1],
    [1, 1, 3, 0, 3, 1, 2, 1, 1, 1, 3, 0, 3, 0, 2, 1],
    [2, 1, 1, 0, 0, 1, 2, 1, 2, 1, 3, 0, 0, 0, 2, 1],
    [2, 1, 1, 1, 0, 1, 2, 1, 2, 1, 3, 1, 0, 0, 2, 1] ]

/-- The cycle table of 70_reset_and_hazards.md R404 by high and low nibble, (taken, not taken); (0, 0) stands for its `-`
and for the CB prefix. -/
def cycleTable : List (List (Nat × Nat)) :=
  [ [(4, 4), (12, 12), (8, 8), (8, 8), (4, 4), (4, 4), (8, 8), (4, 4), (20, 20), (8, 8), (8, 8), (8, 8), (4, 4), (4, 4), (8, 8), (4, 4)],
    [(4, 4), (12, 12), (8, 8), (8, 8), (4, 4), (4, 4), (8, 8), (4, 4), (12, 12), (8, 8), (8, 8), (8, 8), (4, 4), (4, 4), (8, 8), (4, 4)],
    [(12, 8), (12, 12), (8, 8), (8, 8), (4, 4), (4, 4), (8, 8), (4, 4), (12, 8), (8, 8), (8, 8), (8, 8), (4, 4), (4, 4), (8, 8), (4, 4)],
    [(12, 8), (12, 12), (8, 8), (8, 8), (12, 12), (12, 12), (12, 12), (4, 4), (12, 8), (8, 8), (8, 8), (8, 8), (4, 4), (4, 4), (8, 8), (4, 4)],
    [(4, 4), (4, 4), (4, 4), (4, 4), (4, 4), (4, 4), (8, 8), (4, 4), (4, 4), (4, 4), (4, 4), (4, 4), (4, 4), (4, 4), (8, 8), (4, 4)],
    [(4, 4), (4, 4), (4, 4), (4, 4), (4, 4), (4, 4), (8, 8), (4, 4), (4, 4), (4, 4), (4, 4), (4, 4), (4, 4), (4, 4), (8, 8), (4, 4)],
    [(4, 4), (4, 4), (4, 4), (4, 4), (4, 4), (4, 4), (8, 8), (4, 4), (4, 4), (4, 4), (4, 4), (4, 4), (4, 4), (4, 4), (8, 8), (4, 4)],
    [(8, 8), (8, 8), (8, 8), (8, 8), (8, 8), (8, 8), (8, 8), (8, 8), (4, 4), (4, 4), (4, 4), (4, 4), (4, 4), (4, 4), (8, 8), (4, 4)],
    [(4, 4), (4, 4), (4, 4), (4, 4), (4, 4), (4, 4), (8, 8), (4, 4), (4, 4), (4, 4), (4, 4), (4, 4), (4, 4), (4, 4), (8, 8), (4, 4)],
    [(4, 4), (4, 4), (4, 4), (4, 4), (4, 4), (4, 4), (8, 8), (4, 4), (4, 4), (4, 4), (4, 4), (4, 4), (4, 4), (4, 4), (8, 8), (4, 4)],
    [(4, 4), (4, 4), (4, 4), (4, 4), (4, 4), (4, 4), (8, 8), (4, 4), (4, 4), (4, 4), (4, 4), (4, 4), (4, 4), (4, 4), (8, 8), (4, 4)],
    [(4, 4), (4, 4), (4, 4), (4, 4), (4, 4), (4, 4), (8, 8), (4, 4), (4, 4), (4, 4), (4, 4), (4, 4), (4, 4), (4, 4), (8, 8), (4, 4)],
    [(20, 8), (12, 12), (16, 12), (16, 16), (24, 12), (16, 16), (8, 8), (16, 16), (20, 8), (16, 16), (16, 12), (0, 0), (24, 12), (24, 24), (8, 8), (16, 16)],
    [(20, 8), (12, 12), (16, 12), (0, 0), (24, 12), (16, 16), (8, 8), (16, 16), (20, 8), (16, 16), (16, 12), (0, 0), (24, 12), (0, 0), (8, 8), (16, 16)],
    [(12, 12), (12, 12), (8, 8), (0, 0), (0, 0), (16, 16), (8, 8), (16, 16), (16, 16), (4, 4), (16, 16), (0, 0), (0, 0), (0, 0), (8, 8), (16, 16)],
    [(12, 12), (12, 12), (8, 8), (4, 4), (0, 0), (16, 16), (8, 8), (16, 16), (12, 12), (8, 8), (16, 16), (4, 4), (0, 0), (0, 0), (8, 8), (16, 16)] ]

/-- The entry of a table by opcode byte. -/
def tableEntry {α : Type} (table : List (List α)) (default : α) (b0 : Byte) : α :=
  (table.getD (b0.toNat / 16) []).getD (b0.toNat % 16) default

/-- The opcode byte an instruction is written with, and for a CB instruction its sub-opcode. -/
def opcodeBytes (i : Instr) : Byte × Byte := ((encode i).getD 0 0#8, (encode i).getD 1 0#8)

/-- Instructions that write F (10_state.md R25): every other instruction leaves F as it is. -/
def writesFlags (i : Instr) : Bool :=
  let b0 := (opcodeBytes i).1
  let sub := (opcodeBytes i).2
  let y := (fieldY b0).toNat
  let z := (fieldZ b0).toNat
  if b0 = 0xCB#8 then decide ((fieldX sub).toNat ≤ 1)
  else match (fieldX b0).toNat with
    | 0 => (z = 1 ∧ y % 2 = 1) ∨ z = 4 ∨ z = 5 ∨ z = 7
    | 1 => false
    | 2 => true
    | _ => z = 6 ∨ (z = 0 ∧ (y = 5 ∨ y = 7)) ∨ (z = 1 ∧ y = 6)

/-- The halves of a register pair by index in `rp`; index 3 has none. -/
def pairHalves : Nat → List R8
  | 0 => [.b, .c]
  | 1 => [.d, .e]
  | 2 => [.h, .l]
  | _ => []

/-- The 8-bit registers an instruction may write, apart from F: its destination, both halves of a pair destination, and HL
where HL+ or HL- addresses memory (10_state.md R32, the instruction rules of files 42 to 46). -/
def destinations (i : Instr) : List R8 :=
  let b0 := (opcodeBytes i).1
  let sub := (opcodeBytes i).2
  let y := (fieldY b0).toNat
  let z := (fieldZ b0).toNat
  if b0 = 0xCB#8 then (if fieldX sub = 1#2 then [] else [r8Of (fieldZ sub)])
  else match (fieldX b0).toNat with
    | 0 =>
      match z with
      | 0 => []
      | 1 => if y % 2 = 1 then [.h, .l] else pairHalves (y / 2)
      | 2 => (if y % 2 = 1 then [.a] else []) ++ (if 4 ≤ y then [.h, .l] else [])
      | 3 => pairHalves (y / 2)
      | 7 => if y ≤ 5 then [.a] else []
      | _ => [r8Of (fieldY b0)]
    | 1 => [r8Of (fieldY b0)]
    | 2 => if y = 7 then [] else [.a]
    | _ =>
      match z with
      | 0 => if y = 6 then [.a] else if y = 7 then [.h, .l] else []
      | 1 => if y = 6 then [.a] else if y % 2 = 0 then pairHalves (y / 2) else []
      | 2 => if y = 6 ∨ y = 7 then [.a] else []
      | 6 => if y = 7 then [] else [.a]
      | _ => []

/-- Instructions that may write SP (10_state.md R22). -/
def writesSP (i : Instr) : Bool :=
  let b0 := (opcodeBytes i).1
  let y := (fieldY b0).toNat
  let z := (fieldZ b0).toNat
  if b0 = 0xCB#8 then false
  else match (fieldX b0).toNat with
    | 0 => (z = 1 ∧ y = 6) ∨ (z = 3 ∧ (y = 6 ∨ y = 7))
    | 1 => false
    | 2 => false
    | _ => (z = 0 ∧ (y < 4 ∨ y = 5)) ∨ (z = 1 ∧ y ≠ 5) ∨ (z = 4 ∧ y < 4) ∨
        (z = 5 ∧ (y % 2 = 0 ∨ y = 1)) ∨ z = 7

/-- Instructions that may transfer control: JR, JP, CALL, RET, RETI, RST (10_state.md R23). -/
def transfers (i : Instr) : Bool :=
  let b0 := (opcodeBytes i).1
  let y := (fieldY b0).toNat
  let z := (fieldZ b0).toNat
  if b0 = 0xCB#8 then false
  else match (fieldX b0).toNat with
    | 0 => z = 0 ∧ 3 ≤ y
    | 1 => false
    | 2 => false
    | _ => (z = 0 ∧ y < 4) ∨ (z = 1 ∧ (y = 1 ∨ y = 3 ∨ y = 5)) ∨ (z = 2 ∧ y < 4) ∨ (z = 3 ∧ y = 0) ∨
        (z = 4 ∧ y < 4) ∨ (z = 5 ∧ y = 1) ∨ z = 7

/-- The two addresses of a stack slot below SP (41_primitives.md R173). -/
def pushSlot (s : State) : List Word := [s.sp - 2#16, s.sp - 2#16 + 1#16]

/-- The addresses an instruction stores to, by the expressions the meanings use (20_memory.md R51, R70). -/
def storedTo (i : Instr) (s : State) : List Word :=
  let b0 := (opcodeBytes i).1
  let sub := (opcodeBytes i).2
  let y := (fieldY b0).toNat
  let z := (fieldZ b0).toNat
  match i with
  | .ldIndNnSp nn => [nn, nn + 1#16]
  | .ldIndNnA nn => [nn]
  | .ldhIndNA n => [highPage n]
  | .ldhIndCA => [highPage s.c]
  | .ldIndBcA => [pairBC s]
  | .ldIndDeA => [pairDE s]
  | .ldIndHlIncA => [pairHL s]
  | .ldIndHlDecA => [pairHL s]
  | _ =>
    if b0 = 0xCB#8 then (if fieldX sub ≠ 1#2 ∧ fieldZ sub = 6#3 then [pairHL s] else [])
    else match (fieldX b0).toNat with
      | 0 => if y = 6 ∧ (z = 4 ∨ z = 5 ∨ z = 6) then [pairHL s] else []
      | 1 => if y = 6 ∧ z ≠ 6 then [pairHL s] else []
      | 2 => []
      | _ =>
        match z with
        | 4 => if y < 4 ∧ condition (ccOf (fieldY b0)) s = true then pushSlot s else []
        | 5 => if y % 2 = 0 ∨ y = 1 then pushSlot s else []
        | 7 => pushSlot s
        | _ => []

/-- Two decimal digits, one per nibble (the packed BCD of 00_scope.md R16). -/
def isBcd (v : Byte) : Prop := v.toNat % 16 ≤ 9 ∧ v.toNat / 16 ≤ 9

/-- The number two decimal digits stand for. -/
def bcdValue (v : Byte) : Nat := v.toNat / 16 * 10 + v.toNat % 16

/-- The correction of the decimal adjust (40_bitops_alu.md R150): the low and the high part, on the uncorrected A. -/
def daaLow (a f : Byte) : Prop := Hset f ∨ (¬ Nset f ∧ a.toNat % 16 > 9)

/-- The condition of the 0x60 correction (R150). -/
def daaHigh (a f : Byte) : Prop := Cset f ∨ (¬ Nset f ∧ a.toNat > 0x99)

end Sys2Proof.Claims

open Sys2Proof Sys2Proof.Machine Sys2Proof.Claims

/-! ## Reset and invariants -/

/-- 70_reset_and_hazards.md section 1. The values are the spec's default of an open parameter (D17, D23, log 1). -/
def Obligations.ResetStateIsAllZero : Prop :=
  let s := State.reset
  (s.a = 0#8 ∧ s.f = 0#8 ∧ s.b = 0#8 ∧ s.c = 0#8 ∧ s.d = 0#8 ∧ s.e = 0#8 ∧ s.h = 0#8 ∧ s.l = 0#8) ∧
    s.sp = 0#16 ∧ s.pc = 0#16 ∧ s.t = 0 ∧ ∀ a : Word, memRead a s = 0#8

/-- The invariant below holds at reset. It rests on the reset values of log 1. -/
def Obligations.ResetMeetsTheInvariant : Prop := State.reset.Inv

/-- Every transition keeps the canonical form of memory, so equal memories stay equal data (log 1, 20_memory.md R50). -/
def Obligations.StepKeepsMemoryCanonical : Prop :=
  ∀ s s' : State, s.memOk → step s = .next s' → s'.memOk

/-- F[3:0] = 0 is kept by every transition (10_state.md R24, an inference the spec marks as derived). -/
def Obligations.StepKeepsFlagLowNibbleZero : Prop :=
  ∀ s s' : State, s.flagsOk → step s = .next s' → s'.flagsOk

/-- t stays at most 24 (10_state.md R29, derived there from the table CYC, D18, log 5). -/
def Obligations.StepKeepsCycleCounterBounded : Prop :=
  ∀ s s' : State, s.cyclesOk → step s = .next s' → s'.cyclesOk

/-- Two canonical memories that read the same at every address are the same data (log 1). -/
def Obligations.CanonicalMemoryIsDeterminedByItsBytes : Prop :=
  ∀ s s' : State, s.memOk → s'.memOk → (∀ a : Word, memRead a s' = memRead a s) → s'.mem = s.mem

/-! ## The step -/

/-- Nothing raises: every window executes, every transition has a next state (00_scope.md R7, 60_exceptions.md R360). -/
def Obligations.EveryTransitionHasANextState : Prop :=
  (∀ (i : Instr) (s : State), ∃ s', exec i s = .next s') ∧
    (∀ (b0 b1 b2 b3 : Byte) (s : State), ∃ s', execute b0 b1 b2 b3 s = .next s') ∧
    ∀ s : State, ∃ s', step s = .next s'

/-- The composed machine of 00_scope.md R8 (D11, D19, D27; logs 9, 17, 23), with the default `EXT_WRITES` (log 6). -/
def Obligations.StepRunsTheDecodedInstruction : Prop :=
  (∀ (s : State) (i : Instr), s.t = 0 →
      decodeWindow (memRead s.pc s) (memRead (s.pc + 1#16) s) (memRead (s.pc + 2#16) s) = .ok i →
      step s = exec i s) ∧
    ∀ s : State, s.t > 0 → step s = .next { s with t := s.t - 1 }

/-- The same for a list of bytes lying in memory at PC (20_memory.md R52, R68): they need not fill the window. -/
def Obligations.StepRunsTheBytesAtTheProgramCounter : Prop :=
  ∀ (s : State) (i : Instr), i.wellFormed = true → s.t = 0 →
    (∀ k : Nat, k < (encode i).length → memRead (s.pc + BitVec.ofNat 16 k) s = (encode i).getD k 0#8) →
    step s = exec i s

/-- An instruction given by its bits in the opcode table is the one that the next step runs (log 21, log 22). -/
def Obligations.StepRunsTheFetchWord : Prop :=
  ∀ (s : State) (nbits w : Nat) (i : Instr), decodeTableWord nbits w = some i →
    step (s.withFetchWord nbits w) = exec i (s.withFetchWord nbits w)

/-- The first t transitions are t Ticks (70_reset_and_hazards.md R403, D19, log 17). -/
def Obligations.TicksRunDownBeforeTheNextStep : Prop :=
  ∀ (s : State) (k : Nat), k ≤ s.t → Host.Core.run Sys2Proof.core k s = .next { s with t := s.t - k }

/-- The stall lasts (60_exceptions.md R366, 46_x3_block.md R340, D5, log 16): no number of transitions changes anything. -/
def Obligations.UnrecognisedOpcodeStallsForEver : Prop :=
  ∀ (s : State) (k : Nat), s.t = 0 → memRead s.pc s ∈ unrecognisedOpcodes →
    Host.Core.run Sys2Proof.core k s = .next s

/-- Of the 256 values of b0 exactly the eleven of 30_encoding.md R95 execute as the identity on every state (D5, log 16). -/
def Obligations.ExactlyElevenOpcodesChangeNothing : Prop :=
  ∀ b0 b1 b2 b3 : Byte, (∀ s : State, execute b0 b1 b2 b3 s = .next s) ↔ b0 ∈ unrecognisedOpcodes

/-- External writers change bytes at their own addresses and no register (00_scope.md R9, 20_memory.md R66, D20, log 6),
whatever the free value is. -/
def Obligations.ExternalWritesTouchOnlyTheirAddresses : Prop :=
  ∀ (addrs : List Word) (s : State),
    { externalWrites addrs s with mem := s.mem, extDraws := s.extDraws } = s ∧
      ∀ a : Word, a ∉ addrs → memRead a (externalWrites addrs s) = memRead a s

/-- Execute does not test t and overwrites it (00_scope.md R8, R15); the unrecognised opcodes leave it. -/
def Obligations.ExecutionIgnoresTheCycleCounter : Prop :=
  ∀ (i : Instr) (s : State) (k : Nat), i ∉ unrecognisedInstrs → exec i { s with t := k } = exec i s

/-! ## Encoding -/

/-- Decoding what the encoder writes gives the instruction back, with every operand (30_encoding.md R80 to R98), whatever
bytes follow. The numbers rest on D2, D3, D4, D7, D10 (logs 2, 3, 7, 8). -/
def Obligations.DecodeOfEncodeIsTheInstruction : Prop :=
  ∀ (i : Instr) (rest : List Byte), i.wellFormed = true → decode (encode i ++ rest) = .ok (i, rest)

/-- The other direction: a decoded instruction is well-formed and is written with the bytes it came from, but for the byte
that STOP skips (log 26). -/
def Obligations.EncodeOfDecodedWindowIsItsBytes : Prop :=
  ∀ (b0 b1 b2 : Byte) (i : Instr), decodeWindow b0 b1 b2 = .ok i →
    i.wellFormed = true ∧ (i ≠ .stop → encode i <+: [b0, b1, b2]) ∧ (i = .stop ↔ b0 = 0x10#8)

/-- Words written out from the spec's encodings: the anchors 00, 80, CB 7C and rows of every block. The numbers of blocks
x = 0 and x = 3 and of the SWAP row are the spec's choices D2 and D3 (log 7); that b1 is the low byte of nn is D10 (log 8). -/
def Obligations.SampleEncodingsDecode : Prop :=
  decodeWindow 0x00#8 0x00#8 0x00#8 = .ok .nop ∧
    decodeWindow 0x80#8 0x00#8 0x00#8 = .ok .addAB ∧
    decodeWindow 0xCB#8 0x7C#8 0x00#8 = .ok (.bit7 .h) ∧
    decodeWindow 0x08#8 0x00#8 0xC0#8 = .ok (.ldIndNnSp 0xC000#16) ∧
    decodeWindow 0x20#8 0xFB#8 0x00#8 = .ok (.jrNzD 0xFB#8) ∧
    decodeWindow 0x66#8 0x00#8 0x00#8 = .ok .ldHIndHl ∧
    decodeWindow 0x76#8 0x00#8 0x00#8 = .ok .halt ∧
    decodeWindow 0xDE#8 0x3A#8 0x00#8 = .ok (.sbcAN 0x3A#8) ∧
    decodeWindow 0xF1#8 0x00#8 0x00#8 = .ok .popAf ∧
    decodeWindow 0xCD#8 0x34#8 0x12#8 = .ok (.callNn 0x1234#16) ∧
    decodeWindow 0xEF#8 0x00#8 0x00#8 = .ok .rst28 ∧
    decodeWindow 0xCB#8 0x36#8 0x00#8 = .ok (.swapR .ind) ∧
    decodeWindow 0xDD#8 0x12#8 0x34#8 = .ok .unrecognisedDD

/-- The length table of 30_encoding.md R102 (derived there), with `STOP_LEN` = 2 (log 3): the length is a function of b0
alone (R81). -/
def Obligations.LengthsFollowTheLengthTable : Prop :=
  ∀ (b0 b1 b2 : Byte) (i : Instr), decodeWindow b0 b1 b2 = .ok i → tableEntry lengthTable 0 b0 ≠ 0 →
    (encode i).length = tableEntry lengthTable 0 b0

/-- The cycle table of 70_reset_and_hazards.md R404 (D18, D6; logs 5, 13), and 8 or 16 for a CB instruction. -/
def Obligations.CyclesFollowTheCycleTable : Prop :=
  ∀ (b0 b1 b2 b3 : Byte) (s : State), b0 ∉ unrecognisedOpcodes → ∃ s', execute b0 b1 b2 b3 s = .next s' ∧
    s'.t = if b0 = 0xCB#8 then (if fieldZ b1 = 6#3 then 16 else 8)
      else if condition (ccOf (fieldY b0)) s then (tableEntry cycleTable (0, 0) b0).1
      else (tableEntry cycleTable (0, 0) b0).2

/-! ## Whole-machine frames -/

/-- PC moves by the instruction's length unless it is a transfer (00_scope.md R14, 10_state.md R23, D11, log 9). -/
def Obligations.ProgramCounterAdvancesByTheLength : Prop :=
  ∀ (i : Instr) (s : State), i ∉ unrecognisedInstrs → transfers i = false →
    ∃ s', exec i s = .next s' ∧ s'.pc = s.pc + BitVec.ofNat 16 (encode i).length

/-- F is left as it is, all eight bits, by every instruction that 10_state.md R25 does not list as writing it. -/
def Obligations.FlagsChangeOnlyWhereListed : Prop :=
  ∀ (i : Instr) (s s' : State), writesFlags i = false → exec i s = .next s' → s'.f = s.f

/-- A register is left as it is by every instruction of which it is no destination; SP by every instruction that
10_state.md R22 does not list. -/
def Obligations.RegistersChangeOnlyAsDestinations : Prop :=
  ∀ (i : Instr) (s s' : State), exec i s = .next s' →
    (∀ r : R8, r ≠ .ind → r ∉ destinations i → readR r s' = readR r s) ∧
      (writesSP i = false → s'.sp = s.sp) ∧ s'.extDraws = s.extDraws

/-- Every byte outside the bytes an instruction stores to reads as before, and an instruction that stores nothing leaves
memory as it is (20_memory.md R50, R51, R70). -/
def Obligations.MemoryChangesOnlyWhereStored : Prop :=
  ∀ (i : Instr) (s s' : State), exec i s = .next s' →
    (∀ a : Word, a ∉ storedTo i s → memRead a s' = memRead a s) ∧ (storedTo i s = [] → s'.mem = s.mem)

/-! ## Memory and operands -/

/-- 20_memory.md R55. -/
def Obligations.ByteWriteReplacesTheByte : Prop :=
  ∀ (addr : Word) (v : Byte) (s : State),
    memRead addr (memWrite addr v s) = v ∧
      (∀ a : Word, a ≠ addr → memRead a (memWrite addr v s) = memRead a s) ∧
      { memWrite addr v s with mem := s.mem } = s

/-- 20_memory.md R54, R56: little-endian, addr + 1 modulo 65536 (D11, log 9). -/
def Obligations.WordAccessIsLittleEndianAndWraps : Prop :=
  ∀ (addr v : Word) (s : State),
    (memRead16 addr s).toNat = (memRead (addr + 1#16) s).toNat * 256 + (memRead addr s).toNat ∧
      (memRead addr (memWrite16 addr v s)).toNat = v.toNat % 256 ∧
      (memRead (addr + 1#16) (memWrite16 addr v s)).toNat = v.toNat / 256 ∧
      (∀ a : Word, a ≠ addr → a ≠ addr + 1#16 → memRead a (memWrite16 addr v s) = memRead a s) ∧
      memRead16 addr (memWrite16 addr v s) = v ∧
      { memWrite16 addr v s with mem := s.mem } = s

/-- 10_state.md R21: a pair is a view of its halves, in both directions. -/
def Obligations.PairsAreViewsOfTheirHalves : Prop :=
  ∀ (s : State) (v : Word),
    ((readRf .af s).toNat = s.a.toNat * 256 + s.f.toNat ∧ (readRf .bc s).toNat = s.b.toNat * 256 + s.c.toNat ∧
        (readRf .de s).toNat = s.d.toNat * 256 + s.e.toNat ∧ (readRf .hl s).toNat = s.h.toNat * 256 + s.l.toNat) ∧
      (∀ hi lo : Byte, v.toNat = hi.toNat * 256 + lo.toNat →
        writeRf .af v s = { s with a := hi, f := lo } ∧ writeRf .bc v s = { s with b := hi, c := lo } ∧
          writeRf .de v s = { s with d := hi, e := lo } ∧ writeRf .hl v s = { s with h := hi, l := lo }) ∧
      ∀ r : Rf, readRf r (writeRf r v s) = v

/-- 10_state.md R26, R27, R28: the three operand tables by index, read and written. -/
def Obligations.OperandTablesByIndex : Prop :=
  ∀ (s : State) (v : Byte) (w : Word),
    (readR (r8Of 0) s = s.b ∧ readR (r8Of 1) s = s.c ∧ readR (r8Of 2) s = s.d ∧ readR (r8Of 3) s = s.e ∧
        readR (r8Of 4) s = s.h ∧ readR (r8Of 5) s = s.l ∧ readR (r8Of 6) s = memRead (readRp .hl s) s ∧
        readR (r8Of 7) s = s.a) ∧
      (writeR (r8Of 0) v s = { s with b := v } ∧ writeR (r8Of 1) v s = { s with c := v } ∧
        writeR (r8Of 2) v s = { s with d := v } ∧ writeR (r8Of 3) v s = { s with e := v } ∧
        writeR (r8Of 4) v s = { s with h := v } ∧ writeR (r8Of 5) v s = { s with l := v } ∧
        writeR (r8Of 6) v s = memWrite (readRp .hl s) v s ∧ writeR (r8Of 7) v s = { s with a := v }) ∧
      ((readRp (rpOf 0) s).toNat = s.b.toNat * 256 + s.c.toNat ∧
        (readRp (rpOf 1) s).toNat = s.d.toNat * 256 + s.e.toNat ∧
        (readRp (rpOf 2) s).toNat = s.h.toNat * 256 + s.l.toNat ∧ readRp (rpOf 3) s = s.sp) ∧
      (writeRp (rpOf 0) w s = writeRf .bc w s ∧ writeRp (rpOf 1) w s = writeRf .de w s ∧
        writeRp (rpOf 2) w s = writeRf .hl w s ∧ writeRp (rpOf 3) w s = { s with sp := w }) ∧
      rfOf 0 = .bc ∧ rfOf 1 = .de ∧ rfOf 2 = .hl ∧ rfOf 3 = .af

/-! ## 8-bit loads -/

/-- 44_x1_ld_r_r.md R270: the 63 loads, the value read before the destination is written (PC + 1 modulo 65536: D11, log 9). -/
def Obligations.LoadOperandFromOperand : Prop :=
  ∀ (y z : BitVec 3) (s : State), ¬ (y = 6#3 ∧ z = 6#3) →
    encode (selLdRR (r8Of y) (r8Of z)) = [BitVec.ofNat 8 (0x40 + 8 * y.toNat + z.toNat)] ∧
      exec (selLdRR (r8Of y) (r8Of z)) s = .next { writeR (r8Of y) (readR (r8Of z) s) s with
        pc := s.pc + 1#16, t := if y = 6#3 ∨ z = 6#3 then 8 else 4 }

/-- 43_x0_block.md R239 (t from CYC: D18, log 5). -/
def Obligations.LoadOperandImmediate : Prop :=
  ∀ (y : BitVec 3) (n : Byte) (s : State),
    exec (selLdRN (r8Of y) n) s = .next { writeR (r8Of y) n s with
      pc := s.pc + 2#16, t := if y = 6#3 then 12 else 8 }

/-- The seven stores of A (43_x0_block.md R227 to R230, 46_x3_block.md R301, R316, R317; D4, D18, logs 2, 5). -/
def Obligations.StoresOfTheAccumulator : Prop :=
  ∀ (s : State) (n : Byte) (nn : Word),
    exec .ldIndBcA s = .next { memWrite (readRp .bc s) s.a s with pc := s.pc + 1#16, t := 8 } ∧
      exec .ldIndDeA s = .next { memWrite (readRp .de s) s.a s with pc := s.pc + 1#16, t := 8 } ∧
      exec .ldIndHlIncA s = .next { writeRp .hl (readRp .hl s + 1#16) (memWrite (readRp .hl s) s.a s) with
        pc := s.pc + 1#16, t := 8 } ∧
      exec .ldIndHlDecA s = .next { writeRp .hl (readRp .hl s - 1#16) (memWrite (readRp .hl s) s.a s) with
        pc := s.pc + 1#16, t := 8 } ∧
      exec (.ldhIndNA n) s = .next { memWrite (BitVec.ofNat 16 (0xFF00 + n.toNat)) s.a s with
        pc := s.pc + 2#16, t := 12 } ∧
      exec .ldhIndCA s = .next { memWrite (BitVec.ofNat 16 (0xFF00 + s.c.toNat)) s.a s with
        pc := s.pc + 1#16, t := 8 } ∧
      exec (.ldIndNnA nn) s = .next { memWrite nn s.a s with pc := s.pc + 3#16, t := 16 }

/-- The seven loads of A (43_x0_block.md R231 to R234, 46_x3_block.md R303, R318, R319; D4, D18, logs 2, 5). -/
def Obligations.LoadsOfTheAccumulator : Prop :=
  ∀ (s : State) (n : Byte) (nn : Word),
    exec .ldAIndBc s = .next { s with a := memRead (readRp .bc s) s, pc := s.pc + 1#16, t := 8 } ∧
      exec .ldAIndDe s = .next { s with a := memRead (readRp .de s) s, pc := s.pc + 1#16, t := 8 } ∧
      exec .ldAIndHlInc s = .next { writeRp .hl (readRp .hl s + 1#16) s with
        a := memRead (readRp .hl s) s, pc := s.pc + 1#16, t := 8 } ∧
      exec .ldAIndHlDec s = .next { writeRp .hl (readRp .hl s - 1#16) s with
        a := memRead (readRp .hl s) s, pc := s.pc + 1#16, t := 8 } ∧
      exec (.ldhAIndN n) s = .next { s with
        a := memRead (BitVec.ofNat 16 (0xFF00 + n.toNat)) s, pc := s.pc + 2#16, t := 12 } ∧
      exec .ldhAIndC s = .next { s with
        a := memRead (BitVec.ofNat 16 (0xFF00 + s.c.toNat)) s, pc := s.pc + 1#16, t := 8 } ∧
      exec (.ldAIndNn nn) s = .next { s with a := memRead nn s, pc := s.pc + 3#16, t := 16 }

/-! ## 16-bit loads and the stack -/

/-- 43_x0_block.md R225, R221, 46_x3_block.md R309 (D11, D18, logs 5, 9). -/
def Obligations.LoadsOfPairsAndStackPointer : Prop :=
  ∀ (s : State) (r : Rp) (nn : Word),
    exec (selLdRpNn r nn) s = .next { writeRp r nn s with pc := s.pc + 3#16, t := 12 } ∧
      exec (.ldIndNnSp nn) s = .next { memWrite16 nn s.sp s with pc := s.pc + 3#16, t := 20 } ∧
      exec .ldSpHl s = .next { s with sp := readRp .hl s, pc := s.pc + 1#16, t := 8 }

/-- 46_x3_block.md R315: the pair goes below SP, low byte at the new SP; F is stored unmasked (D11, D18, logs 5, 9). -/
def Obligations.PushStoresThePairBelowSP : Prop :=
  ∀ (r : Rf) (s : State), ∃ s',
    exec (selPush r) s = .next s' ∧
      s' = { s with mem := s'.mem, sp := s.sp - 2#16, pc := s.pc + 1#16, t := 16 } ∧
      (memRead (s.sp - 2#16) s').toNat = (readRf r s).toNat % 256 ∧
      (memRead (s.sp - 1#16) s').toNat = (readRf r s).toNat / 256 ∧
      ∀ a : Word, a ≠ s.sp - 2#16 → a ≠ s.sp - 1#16 → memRead a s' = memRead a s

/-- 46_x3_block.md R305: the pair takes the word at SP; POP AF clears F[3:0] (D11, D18, logs 5, 9). -/
def Obligations.PopLoadsThePairFromSP : Prop :=
  ∀ (r : Rf) (s : State), ∃ v : Word,
    v.toNat = (memRead (s.sp + 1#16) s).toNat * 256 +
        (if r = .af then (memRead s.sp s).toNat / 16 * 16 else (memRead s.sp s).toNat) ∧
      exec (selPop r) s = .next { writeRf r v s with sp := s.sp + 2#16, pc := s.pc + 1#16, t := 12 }

/-- The source's stack property (46_x3_block.md R315, 95_test_vectors.md T4), for every SP, with the mask of POP AF. -/
def Obligations.PushThenPopRestoresValueAndSP : Prop :=
  ∀ (r r' : Rf) (s s1 : State), exec (selPush r) s = .next s1 → ∃ s2, exec (selPop r') s1 = .next s2 ∧
    s2.sp = s.sp ∧ (r' ≠ .af → readRf r' s2 = readRf r s) ∧
      (r' = .af → (readRf .af s2).toNat = (readRf r s).toNat / 16 * 16)

/-! ## 8-bit arithmetic -/

/-- 45_x2_alu_a_r.md R280, R281, R284, R285, R286: ADD, ADC, AND, XOR, OR with every operand (PC + 1 modulo 65536: D11,
log 9). -/
def Obligations.AccumulatorOperationWithOperand : Prop :=
  ∀ op ∈ [AluOp.add, .adc, .and, .xor, .or], ∀ (z : BitVec 3) (s : State),
    encode (selAluR op (r8Of z)) = [BitVec.ofNat 8 (0x80 + 8 * alIndex op + z.toNat)] ∧
      ∃ r f, exec (selAluR op (r8Of z)) s = .next { s with
          a := r, f := f, pc := s.pc + 1#16, t := if z = 6#3 then 8 else 4 } ∧
        AluLeaves op s.a (readR (r8Of z) s) (cin s.f) r f

/-- SUB, SBC and CP with every operand (45_x2_alu_a_r.md R282, R283, R287), where Z and the absence of a carry-in in SUB and
CP are the spec's choices D15 and D25 (log 12); and all eight with n (46_x3_block.md R321 to R328; D2, D18, logs 5, 7). -/
def Obligations.AccumulatorSubtractionsAndImmediates : Prop :=
  (∀ op ∈ [AluOp.sub, .sbc, .cp], ∀ (z : BitVec 3) (s : State),
      encode (selAluR op (r8Of z)) = [BitVec.ofNat 8 (0x80 + 8 * alIndex op + z.toNat)] ∧
        ∃ r f, exec (selAluR op (r8Of z)) s = .next { s with
            a := r, f := f, pc := s.pc + 1#16, t := if z = 6#3 then 8 else 4 } ∧
          AluLeaves op s.a (readR (r8Of z) s) (cin s.f) r f) ∧
    ∀ (op : AluOp) (n : Byte) (s : State), ∃ r f,
      exec (selAluN op n) s = .next { s with a := r, f := f, pc := s.pc + 2#16, t := 8 } ∧
        AluLeaves op s.a n (cin s.f) r f

/-- 43_x0_block.md R237, R238: C is unchanged. The opcode numbers are the spec's choice D2 (log 7). -/
def Obligations.IncrementAndDecrementOperand : Prop :=
  ∀ (y : BitVec 3) (s : State),
    (encode (selIncR (r8Of y)) = [BitVec.ofNat 8 (0x04 + 8 * y.toNat)] ∧
      ∃ v f, exec (selIncR (r8Of y)) s = .next { writeR (r8Of y) v s with
          f := f, pc := s.pc + 1#16, t := if y = 6#3 then 12 else 4 } ∧
        v.toNat = ((readR (r8Of y) s).toNat + 1) % 256 ∧
        FlagsAre f (v = 0#8) False ((readR (r8Of y) s).toNat % 16 = 0xF) (Cset s.f)) ∧
    (encode (selDecR (r8Of y)) = [BitVec.ofNat 8 (0x05 + 8 * y.toNat)] ∧
      ∃ v f, exec (selDecR (r8Of y)) s = .next { writeR (r8Of y) v s with
          f := f, pc := s.pc + 1#16, t := if y = 6#3 then 12 else 4 } ∧
        (v.toNat : Int) = (((readR (r8Of y) s).toNat : Int) - 1) % 256 ∧
        FlagsAre f (v = 0#8) True ((readR (r8Of y) s).toNat % 16 = 0) (Cset s.f))

/-! ## 16-bit arithmetic -/

/-- 43_x0_block.md R235, R236: F is not written (t from CYC: D18, log 5). -/
def Obligations.IncrementAndDecrementPair : Prop :=
  ∀ (r : Rp) (s : State), ∃ up down : Word,
    up.toNat = ((readRp r s).toNat + 1) % 65536 ∧
      (down.toNat : Int) = (((readRp r s).toNat : Int) - 1) % 65536 ∧
      exec (selIncRp r) s = .next { writeRp r up s with pc := s.pc + 1#16, t := 8 } ∧
      exec (selDecRp r) s = .next { writeRp r down s with pc := s.pc + 1#16, t := 8 }

/-- 43_x0_block.md R226: Z is unchanged (t from CYC: D18, log 5). -/
def Obligations.AddPairToHL : Prop :=
  ∀ (r : Rp) (s : State), ∃ (v : Word) (f : Byte),
    exec (selAddHl r) s = .next { writeRp .hl v s with f := f, pc := s.pc + 1#16, t := 8 } ∧
      v.toNat = ((readRp .hl s).toNat + (readRp r s).toNat) % 65536 ∧
      FlagsAre f (Zset s.f) False ((readRp .hl s).toNat % 4096 + (readRp r s).toNat % 4096 > 0xFFF)
        ((readRp .hl s).toNat + (readRp r s).toNat > 0xFFFF)

/-- 46_x3_block.md R302, R304 with `SPD_FLAGS` = byte (D13, D18, logs 4, 5): d is signed in the sum and unsigned in the
flags. -/
def Obligations.SignedDisplacementAdds : Prop :=
  ∀ (d : Byte) (s : State), ∃ (v : Word) (f : Byte),
    (v.toNat : Int) = ((s.sp.toNat : Int) + d.toInt) % 65536 ∧
      FlagsAre f False False (s.sp.toNat % 16 + d.toNat % 16 > 0xF) (s.sp.toNat % 256 + d.toNat > 0xFF) ∧
      exec (.addSpD d) s = .next { s with sp := v, f := f, pc := s.pc + 2#16, t := 16 } ∧
      exec (.ldHlSpD d) s = .next { writeRp .hl v s with f := f, pc := s.pc + 2#16, t := 12 }

/-! ## Accumulator and flags -/

/-- 43_x0_block.md R240 to R243: Z, N, H are forced to zero (t from CYC: D18, log 5). -/
def Obligations.AccumulatorRotatesClearZ : Prop :=
  ∀ (s : State), ∀ p ∈ [(Instr.rlca, RotOp.rlc), (.rrca, .rrc), (.rla, .rl), (.rra, .rr)], ∃ r f,
    exec p.1 s = .next { s with a := r, f := f, pc := s.pc + 1#16, t := 4 } ∧
      r.toNat = rotated p.2 s.a.toNat (cin s.f) ∧
      FlagsAre f False False False (shiftedOut p.2 s.a.toNat = 1)

/-- 43_x0_block.md R244, 40_bitops_alu.md R150 (constants D14, log 11; t: D18, log 5). -/
def Obligations.DecimalAdjustAlgorithm : Prop :=
  ∀ s : State, ∃ (r f : Byte) (offset : Nat),
    exec .daa s = .next { s with a := r, f := f, pc := s.pc + 1#16, t := 4 } ∧
      (daaLow s.a s.f ∧ daaHigh s.a s.f → offset = 0x66) ∧
      (daaLow s.a s.f ∧ ¬ daaHigh s.a s.f → offset = 0x06) ∧
      (¬ daaLow s.a s.f ∧ daaHigh s.a s.f → offset = 0x60) ∧
      (¬ daaLow s.a s.f ∧ ¬ daaHigh s.a s.f → offset = 0) ∧
      (¬ Nset s.f → (r.toNat : Int) = ((s.a.toNat : Int) + offset) % 256) ∧
      (Nset s.f → (r.toNat : Int) = ((s.a.toNat : Int) - offset) % 256) ∧
      FlagsAre f (r = 0#8) (Nset s.f) False (daaHigh s.a s.f)

/-- The property of 40_bitops_alu.md R150 (95_test_vectors.md T8), for ADD and for SUB of any operand r[z]: the decimal sum
or difference modulo 100, C for the decimal carry or borrow, H clear (D14, log 11). -/
def Obligations.DecimalAdjustCorrectsBcdArithmetic : Prop :=
  ∀ (z : R8) (s : State), isBcd s.a → isBcd (readR z s) →
    (∃ s1 s2, exec (selAluR .add z) s = .next s1 ∧ exec .daa s1 = .next s2 ∧ isBcd s2.a ∧
        bcdValue s2.a = (bcdValue s.a + bcdValue (readR z s)) % 100 ∧
        (Cset s2.f ↔ bcdValue s.a + bcdValue (readR z s) > 99) ∧ ¬ Hset s2.f) ∧
      ∃ s1 s2, exec (selAluR .sub z) s = .next s1 ∧ exec .daa s1 = .next s2 ∧ isBcd s2.a ∧
        bcdValue s2.a = (bcdValue s.a + 100 - bcdValue (readR z s)) % 100 ∧
        (Cset s2.f ↔ bcdValue s.a < bcdValue (readR z s)) ∧ ¬ Hset s2.f

/-- 43_x0_block.md R245, R246, R247 (Z of SCF and CCF: D15, log 12; t from CYC: D18, log 5). -/
def Obligations.ComplementAndCarryOperations : Prop :=
  ∀ s : State, ∃ r f1 f2 f3,
    exec .cpl s = .next { s with a := r, f := f1, pc := s.pc + 1#16, t := 4 } ∧
      r.toNat = 255 - s.a.toNat ∧ FlagsAre f1 (Zset s.f) True True (Cset s.f) ∧
      exec .scf s = .next { s with f := f2, pc := s.pc + 1#16, t := 4 } ∧
      FlagsAre f2 (Zset s.f) False False True ∧
      exec .ccf s = .next { s with f := f3, pc := s.pc + 1#16, t := 4 } ∧
      FlagsAre f3 (Zset s.f) False False (¬ Cset s.f)

/-! ## CB-prefixed instructions -/

/-- 42_cb_prefixed.md R191 to R198. The order of the eight rotates is the spec's choice D3 (log 7). -/
def Obligations.PrefixedRotatesAndShifts : Prop :=
  ∀ (op : RotOp) (z : BitVec 3) (s : State),
    encode (selRot op (r8Of z)) = [0xCB#8, BitVec.ofNat 8 (8 * rotIndex op + z.toNat)] ∧
      ∃ r f, exec (selRot op (r8Of z)) s = .next { writeR (r8Of z) r s with
          f := f, pc := s.pc + 2#16, t := if z = 6#3 then 16 else 8 } ∧
        r.toNat = rotated op (readR (r8Of z) s).toNat (cin s.f) ∧
        FlagsAre f (r = 0#8) False False (shiftedOut op (readR (r8Of z) s).toNat = 1)

/-- 42_cb_prefixed.md R199: the operand is not written, C is unchanged; for (HL) that is the spec's choice D21 (log 18). -/
def Obligations.PrefixedBitTest : Prop :=
  ∀ (y z : BitVec 3) (s : State),
    encode (selBit y.toFin (r8Of z)) = [0xCB#8, BitVec.ofNat 8 (0x40 + 8 * y.toNat + z.toNat)] ∧
      ∃ f, exec (selBit y.toFin (r8Of z)) s = .next { s with
          f := f, pc := s.pc + 2#16, t := if z = 6#3 then 16 else 8 } ∧
        FlagsAre f ((readR (r8Of z) s).getLsbD y.toNat = false) False True (Cset s.f)

/-- 42_cb_prefixed.md R200, R201: one bit of the operand changes, F does not (the latter is the spec's choice D15, log 12). -/
def Obligations.PrefixedResetAndSetBit : Prop :=
  ∀ (y z : BitVec 3) (s : State), ∃ lo hi : Byte,
    (∀ i : Nat, i < 8 → lo.getLsbD i = if i = y.toNat then false else (readR (r8Of z) s).getLsbD i) ∧
      (∀ i : Nat, i < 8 → hi.getLsbD i = if i = y.toNat then true else (readR (r8Of z) s).getLsbD i) ∧
      encode (selRes y.toFin (r8Of z)) = [0xCB#8, BitVec.ofNat 8 (0x80 + 8 * y.toNat + z.toNat)] ∧
      exec (selRes y.toFin (r8Of z)) s = .next { writeR (r8Of z) lo s with
        pc := s.pc + 2#16, t := if z = 6#3 then 16 else 8 } ∧
      encode (selSet y.toFin (r8Of z)) = [0xCB#8, BitVec.ofNat 8 (0xC0 + 8 * y.toNat + z.toNat)] ∧
      exec (selSet y.toFin (r8Of z)) s = .next { writeR (r8Of z) hi s with
        pc := s.pc + 2#16, t := if z = 6#3 then 16 else 8 }

/-- The table's row for the prefix byte (30_encoding.md R84, R85; log 20): with its sub-opcode it answers the next state
that the CB instruction of that sub-opcode answers, and the decoder gives that instruction. -/
def Obligations.PrefixRowRunsTheSubOpcode : Prop :=
  ∀ (b1 b2 : Byte) (s : State), ∃ s',
    exec (.prefixCb b1) s = .next s' ∧ s'.pc = s.pc + 2#16 ∧ decodeWindow 0xCB#8 b1 b2 = .ok (decodeCb b1) ∧
      exec (decodeCb b1) s = .next s'

/-- The laws of 40_bitops_alu.md R154, on the operand r[z] of two instructions executed back to back. -/
def Obligations.ComplementaryRotatesRestoreTheOperand : Prop :=
  ∀ (z : R8) (s s1 s2 : State),
    ∀ p ∈ [(RotOp.rlc, RotOp.rrc), (.rrc, .rlc), (.rl, .rr), (.rr, .rl), (.swap, .swap)],
      exec (selRot p.1 z) s = .next s1 → exec (selRot p.2 z) s1 = .next s2 → readR z s2 = readR z s

/-! ## Control transfer -/

/-- 43_x0_block.md R223, R224: PC0 + 2 + d with d signed, taken when cc holds (D12, D18, logs 5, 10). -/
def Obligations.RelativeJumps : Prop :=
  ∀ (cc : Cc) (d : Byte) (s : State), ∃ target : Word,
    (target.toNat : Int) = ((s.pc.toNat : Int) + 2 + d.toInt) % 65536 ∧
      exec (.jrD d) s = .next { s with pc := target, t := 12 } ∧
      (condition cc s = true → exec (selJrCc cc d) s = .next { s with pc := target, t := 12 }) ∧
      (condition cc s = false → exec (selJrCc cc d) s = .next { s with pc := s.pc + 2#16, t := 8 })

/-- 46_x3_block.md R308, R310, R311 (t from CYC: D18, log 5). -/
def Obligations.AbsoluteJumps : Prop :=
  ∀ (cc : Cc) (nn : Word) (s : State),
    exec (.jpNn nn) s = .next { s with pc := nn, t := 16 } ∧
      exec .jpHl s = .next { s with pc := readRp .hl s, t := 4 } ∧
      (condition cc s = true → exec (selJpCc cc nn) s = .next { s with pc := nn, t := 16 }) ∧
      (condition cc s = false → exec (selJpCc cc nn) s = .next { s with pc := s.pc + 3#16, t := 12 })

/-- 30_encoding.md R91: what each condition tests; that y selects it is general knowledge of the spec (D2, log 7). -/
def Obligations.ConditionsTestTheirFlag : Prop :=
  ∀ s : State, (condition (ccOf 0) s = true ↔ ¬ Zset s.f) ∧ (condition (ccOf 1) s = true ↔ Zset s.f) ∧
    (condition (ccOf 2) s = true ↔ ¬ Cset s.f) ∧ (condition (ccOf 3) s = true ↔ Cset s.f) ∧
    ccOf 0 = .nz ∧ ccOf 1 = .z ∧ ccOf 2 = .nc ∧ ccOf 3 = .c ∧
    ∀ y : BitVec 3, ccOf (y + 4) = ccOf y

/-- 46_x3_block.md R314, R320, R329: the address after the instruction goes below SP, low byte at the new SP (D11, D12, D18,
logs 5, 9, 10). A CALL whose condition is false only advances. -/
def Obligations.CallsPushTheReturnAddress : Prop :=
  ∀ (cc : Cc) (nn : Word) (y : BitVec 3) (s : State),
    exec (.callNn nn) s =
        .next { memWrite16 (s.sp - 2#16) (s.pc + 3#16) s with sp := s.sp - 2#16, pc := nn, t := 24 } ∧
      (condition cc s = true → exec (selCallCc cc nn) s =
        .next { memWrite16 (s.sp - 2#16) (s.pc + 3#16) s with sp := s.sp - 2#16, pc := nn, t := 24 }) ∧
      (condition cc s = false → exec (selCallCc cc nn) s = .next { s with pc := s.pc + 3#16, t := 12 }) ∧
      exec (selRst y) s = .next { memWrite16 (s.sp - 2#16) (s.pc + 1#16) s with
        sp := s.sp - 2#16, pc := BitVec.ofNat 16 (8 * y.toNat), t := 16 }

/-- 46_x3_block.md R300, R306, R307: PC takes the word at SP; RETI is RET (D9, D18, logs 5, 15). -/
def Obligations.ReturnsPopTheProgramCounter : Prop :=
  ∀ (cc : Cc) (s : State), ∃ target : Word,
    target.toNat = (memRead (s.sp + 1#16) s).toNat * 256 + (memRead s.sp s).toNat ∧
      exec .ret s = .next { s with sp := s.sp + 2#16, pc := target, t := 16 } ∧
      exec .reti s = .next { s with sp := s.sp + 2#16, pc := target, t := 16 } ∧
      (condition cc s = true → exec (selRetCc cc) s = .next { s with sp := s.sp + 2#16, pc := target, t := 20 }) ∧
      (condition cc s = false → exec (selRetCc cc) s = .next { s with pc := s.pc + 1#16, t := 8 })

/-- A return after a call resumes after the call, with SP as it was (41_primitives.md R176 to R178, D12, log 10). -/
def Obligations.ReturnAfterCallResumes : Prop :=
  ∀ (i : Instr) (cc : Cc) (nn : Word) (y : BitVec 3) (s s1 : State),
    (i = .callNn nn ∨ (i = selCallCc cc nn ∧ condition cc s = true) ∨ i = selRst y) → exec i s = .next s1 →
    ∀ r ∈ [Instr.ret, .reti], ∃ s2, exec r s1 = .next s2 ∧
      s2.pc = s.pc + BitVec.ofNat 16 (encode i).length ∧ s2.sp = s.sp

/-! ## No-operations and unrecognised opcodes -/

/-- 43_x0_block.md R220 (PC + 1 modulo 65536: D11, log 9). -/
def Obligations.NopAdvancesOneByte : Prop :=
  ∀ s : State, encode .nop = [0x00#8] ∧ exec .nop s = .next { s with pc := s.pc + 1#16, t := 4 }

/-- STOP, HALT, DI and EI change PC and t only: the spec's decisions D6, D7, D8 (logs 3, 13, 14), with `STOP_LEN` = 2. -/
def Obligations.SystemOpcodesOnlyAdvance : Prop :=
  ∀ s : State, exec .stop s = .next { s with pc := s.pc + 2#16, t := 4 } ∧
    exec .halt s = .next { s with pc := s.pc + 1#16, t := 8 } ∧
    exec .di s = .next { s with pc := s.pc + 1#16, t := 4 } ∧
    exec .ei s = .next { s with pc := s.pc + 1#16, t := 4 }

/-- The eleven unrecognised opcodes answer the state they were given (46_x3_block.md R340, D5, log 16). -/
def Obligations.UnrecognisedInstructionsChangeNothing : Prop :=
  ∀ s : State, ∀ i ∈ unrecognisedInstrs, exec i s = .next s
end

