-- ==== Sys2Proof/Laws/Bits.lean ====
section
/-! SUPPORT. Laws of the value-level helpers: composing and taking apart words, the bits of F, and the nibble of a byte. -/

namespace Sys2Proof.Machine

theorem compose_toNat (h l : Byte) : (compose h l).toNat = h.toNat * 256 + l.toNat := by
  have e : (compose h l).toNat = h.toNat <<< 8 ||| l.toNat := BitVec.toNat_append h l
  rw [e, ← Nat.shiftLeft_add_eq_or_of_lt l.isLt, Nat.shiftLeft_eq]

theorem lowByte_toNat (v : Word) : (lowByte v).toNat = v.toNat % 256 := by
  simp [lowByte, BitVec.extractLsb'_toNat]

theorem highByte_toNat (v : Word) : (highByte v).toNat = v.toNat / 256 := by
  simp [highByte, BitVec.extractLsb'_toNat, Nat.shiftRight_eq_div_pow]; omega

@[simp] theorem lowByte_compose (h l : Byte) : lowByte (compose h l) = l := by
  apply BitVec.eq_of_toNat_eq; rw [lowByte_toNat, compose_toNat]; omega

@[simp] theorem highByte_compose (h l : Byte) : highByte (compose h l) = h := by
  apply BitVec.eq_of_toNat_eq; rw [highByte_toNat, compose_toNat]; omega

@[simp] theorem compose_high_low (v : Word) : compose (highByte v) (lowByte v) = v := by
  apply BitVec.eq_of_toNat_eq; rw [compose_toNat, lowByte_toNat, highByte_toNat]; omega

theorem nibble_eq_mod (v : Byte) : nibble v = v.toNat % 16 := by
  unfold nibble
  rw [BitVec.toNat_and]
  exact Nat.and_two_pow_sub_one_eq_mod _ 4

@[simp] theorem flagZ_flags (z n h c : Bool) : flagZ (flags z n h c) = z := by revert z n h c; decide
@[simp] theorem flagN_flags (z n h c : Bool) : flagN (flags z n h c) = n := by revert z n h c; decide
@[simp] theorem flagH_flags (z n h c : Bool) : flagH (flags z n h c) = h := by revert z n h c; decide
@[simp] theorem flagC_flags (z n h c : Bool) : flagC (flags z n h c) = c := by revert z n h c; decide

/-- Every flag-writing operation leaves F[3:0] zero (10_state.md R24). -/
@[simp] theorem flags_low_nibble (z n h c : Bool) : (flags z n h c).extractLsb' 0 4 = 0#4 := by
  revert z n h c; decide

/-- F is its four flags and its low nibble. -/
theorem flags_of_low_nibble_zero {f : Byte} (hf : f.extractLsb' 0 4 = 0#4) :
    flags (flagZ f) (flagN f) (flagH f) (flagC f) = f := by
  revert f; decide

theorem carryIn_le_one (f : Byte) : carryIn f ≤ 1 := Bool.toNat_le _

/-- What `zext16` is as a number. -/
theorem zext16_toNat (b : Byte) : (zext16 b).toNat = b.toNat := by
  unfold zext16; rw [BitVec.toNat_setWidth]; omega

end Sys2Proof.Machine
end

