-- ==== Sys2Proof/Laws/Decode.lean ====
section
/-! SUPPORT. Laws of the decoder: what it reads from a list of bytes, and the bytes of a table word. -/

namespace Sys2Proof

open Sys2Proof.Machine

/-- Decoding a list that holds the whole instruction is decoding its window. -/
theorem decode_of_window {b0 : Byte} {rest : List Byte} {i : Instr} (len : ¬ rest.length + 1 < opcodeLength b0)
    (h : decodeWindow b0 (rest.getD 0 0#8) (rest.getD 1 0#8) = .ok i) :
    decode (b0 :: rest) = .ok (i, rest.drop (opcodeLength b0 - 1)) := by
  simp only [decode, if_neg len, h]

/-- A 0xCB byte and a sub-opcode decode by the CB map (30_encoding.md R85). -/
theorem decode_cb (b1 : Byte) (rest : List Byte) : decode (0xCB#8 :: b1 :: rest) = .ok (decodeCb b1, rest) :=
  decode_of_window (b0 := 0xCB#8) (rest := b1 :: rest) (by show ¬ (rest.length + 1 + 1 < 2); omega) rfl

/-- No instruction is longer than three bytes (30_encoding.md R80). -/
theorem opcodeLength_le (b0 : Byte) : opcodeLength b0 ≤ 3 := by revert b0; decide

theorem opcodeLength_pos (b0 : Byte) : 0 < opcodeLength b0 := by revert b0; decide

/-- Decoding three bytes is decoding the window they are. -/
theorem decode_three (b0 b1 b2 : Byte) :
    (∃ i rest, decodeWindow b0 b1 b2 = .ok i ∧ decode [b0, b1, b2] = .ok (i, rest)) ∨
      ∃ e, decodeWindow b0 b1 b2 = .error e ∧ decode [b0, b1, b2] = .error e := by
  have len : ¬ [b1, b2].length + 1 < opcodeLength b0 := by have := opcodeLength_le b0; simp; omega
  cases h : decodeWindow b0 b1 b2 with
  | ok i => exact .inl ⟨i, _, rfl, decode_of_window len h⟩
  | error e =>
    refine .inr ⟨e, rfl, ?_⟩
    have h' : decodeWindow b0 ([b1, b2].getD 0 0#8) ([b1, b2].getD 1 0#8) = .error e := h
    simp only [decode, if_neg len, h']

/-- A table word is laid out as three bytes. -/
theorem tableBytes_three (nbits w : Nat) : ∃ b0 b1 b2, tableBytes nbits w = [b0, b1, b2] := by
  unfold tableBytes; dsimp only; split <;> exact ⟨_, _, _, rfl⟩

/-- What a table word decodes to is what its window decodes to. -/
theorem decodeTableWord_window {nbits w : Nat} {b0 b1 b2 : Byte} {i : Instr} (e : tableBytes nbits w = [b0, b1, b2])
    (h : decodeTableWord nbits w = some i) : decodeWindow b0 b1 b2 = .ok i := by
  unfold decodeTableWord at h
  rw [e] at h
  rcases decode_three b0 b1 b2 with ⟨j, rest, hw, hd⟩ | ⟨r, -, hd⟩ <;> rw [hd] at h
  · cases h; exact hw
  · cases h

/-- An instruction is written with one, two or three bytes. -/
theorem encode_length (i : Instr) : (encode i).length = 1 ∨ (encode i).length = 2 ∨ (encode i).length = 3 := by
  cases i <;> first | exact .inl rfl | exact .inr (.inl rfl) | exact .inr (.inr rfl)

end Sys2Proof
end

