-- ==== Sys2Proof/Laws/Memory.lean ====
section
/-! SUPPORT. Laws of memory: read after write, the canonical form and its uniqueness, the 16-bit accesses. -/

namespace Sys2Proof.Machine

/-! ## Lookup and store by key, on any list -/

theorem lookup_erase_same (m : Memory) (a : Nat) : Memory.lookup (Memory.erase m a) a = Memory.unlisted := by
  induction m with
  | nil => rfl
  | cons x m ih => simp only [Memory.erase]; split <;> simp_all [Memory.lookup]

theorem lookup_erase_ne (m : Memory) {a b : Nat} (h : b ≠ a) :
    Memory.lookup (Memory.erase m a) b = Memory.lookup m b := by
  induction m with
  | nil => rfl
  | cons x m ih =>
    simp only [Memory.erase]
    split
    · subst a; rw [ih, Memory.lookup, if_neg (Ne.symm h)]
    · simp only [Memory.lookup, ih]

theorem lookup_insert_same (m : Memory) (a : Nat) (v : Byte) :
    Memory.lookup (Memory.insert (Memory.erase m a) a v) a = v := by
  induction m with
  | nil => simp [Memory.erase, Memory.insert, Memory.lookup]
  | cons x m ih =>
    simp only [Memory.erase]
    split
    · exact ih
    · rename_i hne
      simp only [Memory.insert]
      split
      · simp [Memory.lookup]
      · rw [Memory.lookup, if_neg hne]; exact ih

theorem lookup_insert_ne (m : Memory) {a b : Nat} (v : Byte) (h : b ≠ a) :
    Memory.lookup (Memory.insert m a v) b = Memory.lookup m b := by
  induction m with
  | nil => simp [Memory.insert, Memory.lookup, Ne.symm h]
  | cons x m ih =>
    simp only [Memory.insert]
    split
    · rw [Memory.lookup, if_neg (Ne.symm h)]
    · simp only [Memory.lookup, ih]

/-- A store is read back, in any memory (20_memory.md R50). -/
theorem lookup_store_same (m : Memory) (a : Nat) (v : Byte) : Memory.lookup (Memory.store m a v) a = v := by
  unfold Memory.store
  split
  · rw [lookup_erase_same]; exact (‹v = _›).symm
  · exact lookup_insert_same m a v

/-- A store changes no other key, in any memory (20_memory.md R50). -/
theorem lookup_store_ne (m : Memory) {a b : Nat} (v : Byte) (h : b ≠ a) :
    Memory.lookup (Memory.store m a v) b = Memory.lookup m b := by
  unfold Memory.store
  split
  · exact lookup_erase_ne m h
  · rw [lookup_insert_ne _ v h, lookup_erase_ne m h]

/-! ## The canonical form -/

theorem mem_erase {m : Memory} {a : Nat} {x : Host.Cell} (h : x ∈ Memory.erase m a) : x ∈ m ∧ x.1 ≠ a := by
  induction m with
  | nil => cases h
  | cons y m ih =>
    simp only [Memory.erase] at h
    split at h
    · exact ⟨List.mem_cons_of_mem _ (ih h).1, (ih h).2⟩
    · rcases List.mem_cons.1 h with rfl | h
      · exact ⟨List.mem_cons_self, ‹_›⟩
      · exact ⟨List.mem_cons_of_mem _ (ih h).1, (ih h).2⟩

theorem wf_erase {m : Memory} (a : Nat) (h : Memory.wf m) : Memory.wf (Memory.erase m a) := by
  refine ⟨?_, fun x hx => h.2 x (mem_erase hx).1⟩
  have hp := h.1
  clear h
  induction m with
  | nil => exact List.Pairwise.nil
  | cons y m ih =>
    rw [List.pairwise_cons] at hp
    simp only [Memory.erase]
    split
    · exact ih hp.2
    · exact List.pairwise_cons.2 ⟨fun x hx => hp.1 x (mem_erase hx).1, ih hp.2⟩

theorem mem_insert {m : Memory} {a : Nat} {v : Byte} {x : Host.Cell} (h : x ∈ Memory.insert m a v) :
    x = (a, v) ∨ x ∈ m := by
  induction m with
  | nil => exact .inl (List.mem_singleton.1 h)
  | cons y m ih =>
    simp only [Memory.insert] at h
    split at h
    · exact List.mem_cons.1 h
    · rcases List.mem_cons.1 h with rfl | h
      · exact .inr List.mem_cons_self
      · exact (ih h).imp_right (List.mem_cons_of_mem _)

theorem pairwise_insert {m : Memory} {a : Nat} {v : Byte} (hp : m.Pairwise (fun x y => x.1 < y.1))
    (hn : ∀ x ∈ m, x.1 ≠ a) : (Memory.insert m a v).Pairwise (fun x y => x.1 < y.1) := by
  induction m with
  | nil => exact List.pairwise_singleton _ _
  | cons y m ih =>
    rw [List.pairwise_cons] at hp
    have hy := hn y List.mem_cons_self
    simp only [Memory.insert]
    split
    · rename_i hlt
      refine List.pairwise_cons.2 ⟨fun x hx => ?_, List.pairwise_cons.2 hp⟩
      rcases List.mem_cons.1 hx with rfl | hx
      · exact hlt
      · exact Nat.lt_trans hlt (hp.1 x hx)
    · refine List.pairwise_cons.2 ⟨fun x hx => ?_, ih hp.2 fun x hx => hn x (List.mem_cons_of_mem _ hx)⟩
      rcases mem_insert hx with rfl | hx
      · show y.1 < a
        omega
      · exact hp.1 x hx

/-- A store at an address keeps the canonical form. -/
theorem wf_store {m : Memory} {a : Nat} (v : Byte) (ha : a < 65536) (h : Memory.wf m) :
    Memory.wf (Memory.store m a v) := by
  unfold Memory.store
  split
  · exact wf_erase a h
  · refine ⟨pairwise_insert (wf_erase a h).1 fun x hx => (mem_erase hx).2, fun x hx => ?_⟩
    rcases mem_insert hx with rfl | hx
    · exact ⟨ha, ‹_›⟩
    · exact (wf_erase a h).2 x hx

/-! ## The access primitives on State -/

theorem word_toNat_ne {a b : Word} (h : b ≠ a) : b.toNat ≠ a.toNat := fun e => h (BitVec.eq_of_toNat_eq e)

@[simp] theorem memRead_memWrite_same (a : Word) (v : Byte) (s : State) : memRead a (memWrite a v s) = v :=
  lookup_store_same _ _ _

theorem memRead_memWrite_ne {a b : Word} (v : Byte) (s : State) (h : b ≠ a) :
    memRead b (memWrite a v s) = memRead b s :=
  lookup_store_ne _ _ (word_toNat_ne h)

/-- Everything a byte write can do to a byte read. -/
theorem memRead_memWrite (a b : Word) (v : Byte) (s : State) :
    memRead b (memWrite a v s) = if b = a then v else memRead b s := by
  split
  · subst b; exact memRead_memWrite_same a v s
  · exact memRead_memWrite_ne v s ‹_›

theorem word_add_one_ne (a : Word) : a + 1#16 ≠ a := by bv_omega

/-- Everything a word write can do to a byte read (20_memory.md R56). -/
theorem memRead_memWrite16 (a b : Word) (v : Word) (s : State) :
    memRead b (memWrite16 a v s) =
      if b = a + 1#16 then highByte v else if b = a then lowByte v else memRead b s := by
  unfold memWrite16; rw [memRead_memWrite, memRead_memWrite]

/-- A word is read back, wherever it is stored (20_memory.md R54, R56). -/
@[simp] theorem memRead16_memWrite16 (a : Word) (v : Word) (s : State) : memRead16 a (memWrite16 a v s) = v := by
  have h := word_add_one_ne a
  unfold memRead16
  rw [memRead_memWrite16, memRead_memWrite16, if_pos rfl, if_neg (Ne.symm h), if_pos rfl, compose_high_low]

/-- A read depends on memory alone. -/
theorem memRead_congr {s s' : State} (h : s'.mem = s.mem) (a : Word) : memRead a s' = memRead a s := by
  unfold memRead; rw [h]

theorem wf_memWrite (a : Word) (v : Byte) {s : State} (h : Memory.wf s.mem) : Memory.wf (memWrite a v s).mem :=
  wf_store v a.isLt h

theorem wf_memWrite16 (a : Word) (v : Word) {s : State} (h : Memory.wf s.mem) :
    Memory.wf (memWrite16 a v s).mem :=
  wf_memWrite _ _ (wf_memWrite _ _ h)

end Sys2Proof.Machine
end

