-- ==== Sys2Proof/Laws/State.lean ====
section
/-! SUPPORT. One lemma per field per shared update: what each operation of Machine/Ops.lean and Machine/Operands.lean
leaves in each field of State, so that no later proof unfolds a record update. -/

namespace Sys2Proof.Machine

@[simp] theorem memWrite_a (x : Word) (v : Byte) (s : State) : (memWrite x v s).a = s.a := rfl
@[simp] theorem memWrite_f (x : Word) (v : Byte) (s : State) : (memWrite x v s).f = s.f := rfl
@[simp] theorem memWrite_b (x : Word) (v : Byte) (s : State) : (memWrite x v s).b = s.b := rfl
@[simp] theorem memWrite_c (x : Word) (v : Byte) (s : State) : (memWrite x v s).c = s.c := rfl
@[simp] theorem memWrite_d (x : Word) (v : Byte) (s : State) : (memWrite x v s).d = s.d := rfl
@[simp] theorem memWrite_e (x : Word) (v : Byte) (s : State) : (memWrite x v s).e = s.e := rfl
@[simp] theorem memWrite_h (x : Word) (v : Byte) (s : State) : (memWrite x v s).h = s.h := rfl
@[simp] theorem memWrite_l (x : Word) (v : Byte) (s : State) : (memWrite x v s).l = s.l := rfl
@[simp] theorem memWrite_sp (x : Word) (v : Byte) (s : State) : (memWrite x v s).sp = s.sp := rfl
@[simp] theorem memWrite_pc (x : Word) (v : Byte) (s : State) : (memWrite x v s).pc = s.pc := rfl
@[simp] theorem memWrite_t (x : Word) (v : Byte) (s : State) : (memWrite x v s).t = s.t := rfl
@[simp] theorem memWrite_mem (x : Word) (v : Byte) (s : State) : (memWrite x v s).mem = Memory.store s.mem x.toNat v := rfl
@[simp] theorem memWrite_extDraws (x : Word) (v : Byte) (s : State) : (memWrite x v s).extDraws = s.extDraws := rfl

@[simp] theorem memWrite16_a (x v : Word) (s : State) : (memWrite16 x v s).a = s.a := rfl
@[simp] theorem memWrite16_f (x v : Word) (s : State) : (memWrite16 x v s).f = s.f := rfl
@[simp] theorem memWrite16_b (x v : Word) (s : State) : (memWrite16 x v s).b = s.b := rfl
@[simp] theorem memWrite16_c (x v : Word) (s : State) : (memWrite16 x v s).c = s.c := rfl
@[simp] theorem memWrite16_d (x v : Word) (s : State) : (memWrite16 x v s).d = s.d := rfl
@[simp] theorem memWrite16_e (x v : Word) (s : State) : (memWrite16 x v s).e = s.e := rfl
@[simp] theorem memWrite16_h (x v : Word) (s : State) : (memWrite16 x v s).h = s.h := rfl
@[simp] theorem memWrite16_l (x v : Word) (s : State) : (memWrite16 x v s).l = s.l := rfl
@[simp] theorem memWrite16_sp (x v : Word) (s : State) : (memWrite16 x v s).sp = s.sp := rfl
@[simp] theorem memWrite16_pc (x v : Word) (s : State) : (memWrite16 x v s).pc = s.pc := rfl
@[simp] theorem memWrite16_t (x v : Word) (s : State) : (memWrite16 x v s).t = s.t := rfl
@[simp] theorem memWrite16_extDraws (x v : Word) (s : State) : (memWrite16 x v s).extDraws = s.extDraws := rfl

@[simp] theorem advance_a (n : Word) (k : Nat) (s : State) : (advance n k s).a = s.a := rfl
@[simp] theorem advance_f (n : Word) (k : Nat) (s : State) : (advance n k s).f = s.f := rfl
@[simp] theorem advance_b (n : Word) (k : Nat) (s : State) : (advance n k s).b = s.b := rfl
@[simp] theorem advance_c (n : Word) (k : Nat) (s : State) : (advance n k s).c = s.c := rfl
@[simp] theorem advance_d (n : Word) (k : Nat) (s : State) : (advance n k s).d = s.d := rfl
@[simp] theorem advance_e (n : Word) (k : Nat) (s : State) : (advance n k s).e = s.e := rfl
@[simp] theorem advance_h (n : Word) (k : Nat) (s : State) : (advance n k s).h = s.h := rfl
@[simp] theorem advance_l (n : Word) (k : Nat) (s : State) : (advance n k s).l = s.l := rfl
@[simp] theorem advance_sp (n : Word) (k : Nat) (s : State) : (advance n k s).sp = s.sp := rfl
@[simp] theorem advance_pc (n : Word) (k : Nat) (s : State) : (advance n k s).pc = s.pc + n := rfl
@[simp] theorem advance_t (n : Word) (k : Nat) (s : State) : (advance n k s).t = k := rfl
@[simp] theorem advance_mem (n : Word) (k : Nat) (s : State) : (advance n k s).mem = s.mem := rfl
@[simp] theorem advance_extDraws (n : Word) (k : Nat) (s : State) : (advance n k s).extDraws = s.extDraws := rfl

@[simp] theorem jumpTo_a (x : Word) (k : Nat) (s : State) : (jumpTo x k s).a = s.a := rfl
@[simp] theorem jumpTo_f (x : Word) (k : Nat) (s : State) : (jumpTo x k s).f = s.f := rfl
@[simp] theorem jumpTo_b (x : Word) (k : Nat) (s : State) : (jumpTo x k s).b = s.b := rfl
@[simp] theorem jumpTo_c (x : Word) (k : Nat) (s : State) : (jumpTo x k s).c = s.c := rfl
@[simp] theorem jumpTo_d (x : Word) (k : Nat) (s : State) : (jumpTo x k s).d = s.d := rfl
@[simp] theorem jumpTo_e (x : Word) (k : Nat) (s : State) : (jumpTo x k s).e = s.e := rfl
@[simp] theorem jumpTo_h (x : Word) (k : Nat) (s : State) : (jumpTo x k s).h = s.h := rfl
@[simp] theorem jumpTo_l (x : Word) (k : Nat) (s : State) : (jumpTo x k s).l = s.l := rfl
@[simp] theorem jumpTo_sp (x : Word) (k : Nat) (s : State) : (jumpTo x k s).sp = s.sp := rfl
@[simp] theorem jumpTo_pc (x : Word) (k : Nat) (s : State) : (jumpTo x k s).pc = x := rfl
@[simp] theorem jumpTo_t (x : Word) (k : Nat) (s : State) : (jumpTo x k s).t = k := rfl
@[simp] theorem jumpTo_mem (x : Word) (k : Nat) (s : State) : (jumpTo x k s).mem = s.mem := rfl
@[simp] theorem jumpTo_extDraws (x : Word) (k : Nat) (s : State) : (jumpTo x k s).extDraws = s.extDraws := rfl

@[simp] theorem push16_a (v : Word) (s : State) : (push16 v s).a = s.a := rfl
@[simp] theorem push16_f (v : Word) (s : State) : (push16 v s).f = s.f := rfl
@[simp] theorem push16_b (v : Word) (s : State) : (push16 v s).b = s.b := rfl
@[simp] theorem push16_c (v : Word) (s : State) : (push16 v s).c = s.c := rfl
@[simp] theorem push16_d (v : Word) (s : State) : (push16 v s).d = s.d := rfl
@[simp] theorem push16_e (v : Word) (s : State) : (push16 v s).e = s.e := rfl
@[simp] theorem push16_h (v : Word) (s : State) : (push16 v s).h = s.h := rfl
@[simp] theorem push16_l (v : Word) (s : State) : (push16 v s).l = s.l := rfl
@[simp] theorem push16_sp (v : Word) (s : State) : (push16 v s).sp = s.sp - 2#16 := rfl
@[simp] theorem push16_pc (v : Word) (s : State) : (push16 v s).pc = s.pc := rfl
@[simp] theorem push16_t (v : Word) (s : State) : (push16 v s).t = s.t := rfl
@[simp] theorem push16_extDraws (v : Word) (s : State) : (push16 v s).extDraws = s.extDraws := rfl

@[simp] theorem push8_a (v : Byte) (s : State) : (push8 v s).a = s.a := rfl
@[simp] theorem push8_f (v : Byte) (s : State) : (push8 v s).f = s.f := rfl
@[simp] theorem push8_b (v : Byte) (s : State) : (push8 v s).b = s.b := rfl
@[simp] theorem push8_c (v : Byte) (s : State) : (push8 v s).c = s.c := rfl
@[simp] theorem push8_d (v : Byte) (s : State) : (push8 v s).d = s.d := rfl
@[simp] theorem push8_e (v : Byte) (s : State) : (push8 v s).e = s.e := rfl
@[simp] theorem push8_h (v : Byte) (s : State) : (push8 v s).h = s.h := rfl
@[simp] theorem push8_l (v : Byte) (s : State) : (push8 v s).l = s.l := rfl
@[simp] theorem push8_sp (v : Byte) (s : State) : (push8 v s).sp = s.sp - 1#16 := rfl
@[simp] theorem push8_pc (v : Byte) (s : State) : (push8 v s).pc = s.pc := rfl
@[simp] theorem push8_t (v : Byte) (s : State) : (push8 v s).t = s.t := rfl
@[simp] theorem push8_extDraws (v : Byte) (s : State) : (push8 v s).extDraws = s.extDraws := rfl

@[simp] theorem popState_a (s : State) : (popState s).a = s.a := rfl
@[simp] theorem popState_f (s : State) : (popState s).f = s.f := rfl
@[simp] theorem popState_b (s : State) : (popState s).b = s.b := rfl
@[simp] theorem popState_c (s : State) : (popState s).c = s.c := rfl
@[simp] theorem popState_d (s : State) : (popState s).d = s.d := rfl
@[simp] theorem popState_e (s : State) : (popState s).e = s.e := rfl
@[simp] theorem popState_h (s : State) : (popState s).h = s.h := rfl
@[simp] theorem popState_l (s : State) : (popState s).l = s.l := rfl
@[simp] theorem popState_sp (s : State) : (popState s).sp = s.sp + 2#16 := rfl
@[simp] theorem popState_pc (s : State) : (popState s).pc = s.pc := rfl
@[simp] theorem popState_t (s : State) : (popState s).t = s.t := rfl
@[simp] theorem popState_mem (s : State) : (popState s).mem = s.mem := rfl
@[simp] theorem popState_extDraws (s : State) : (popState s).extDraws = s.extDraws := rfl

@[simp] theorem tick_a (s : State) : (tick s).a = s.a := rfl
@[simp] theorem tick_f (s : State) : (tick s).f = s.f := rfl
@[simp] theorem tick_b (s : State) : (tick s).b = s.b := rfl
@[simp] theorem tick_c (s : State) : (tick s).c = s.c := rfl
@[simp] theorem tick_d (s : State) : (tick s).d = s.d := rfl
@[simp] theorem tick_e (s : State) : (tick s).e = s.e := rfl
@[simp] theorem tick_h (s : State) : (tick s).h = s.h := rfl
@[simp] theorem tick_l (s : State) : (tick s).l = s.l := rfl
@[simp] theorem tick_sp (s : State) : (tick s).sp = s.sp := rfl
@[simp] theorem tick_pc (s : State) : (tick s).pc = s.pc := rfl
@[simp] theorem tick_t (s : State) : (tick s).t = s.t - 1 := rfl
@[simp] theorem tick_mem (s : State) : (tick s).mem = s.mem := rfl
@[simp] theorem tick_extDraws (s : State) : (tick s).extDraws = s.extDraws := rfl

@[simp] theorem setAF_a (v : Word) (s : State) : (setAF v s).a = highByte v := rfl
@[simp] theorem setAF_f (v : Word) (s : State) : (setAF v s).f = lowByte v := rfl
@[simp] theorem setAF_b (v : Word) (s : State) : (setAF v s).b = s.b := rfl
@[simp] theorem setAF_c (v : Word) (s : State) : (setAF v s).c = s.c := rfl
@[simp] theorem setAF_d (v : Word) (s : State) : (setAF v s).d = s.d := rfl
@[simp] theorem setAF_e (v : Word) (s : State) : (setAF v s).e = s.e := rfl
@[simp] theorem setAF_h (v : Word) (s : State) : (setAF v s).h = s.h := rfl
@[simp] theorem setAF_l (v : Word) (s : State) : (setAF v s).l = s.l := rfl
@[simp] theorem setAF_sp (v : Word) (s : State) : (setAF v s).sp = s.sp := rfl
@[simp] theorem setAF_pc (v : Word) (s : State) : (setAF v s).pc = s.pc := rfl
@[simp] theorem setAF_t (v : Word) (s : State) : (setAF v s).t = s.t := rfl
@[simp] theorem setAF_mem (v : Word) (s : State) : (setAF v s).mem = s.mem := rfl
@[simp] theorem setAF_extDraws (v : Word) (s : State) : (setAF v s).extDraws = s.extDraws := rfl

@[simp] theorem setBC_a (v : Word) (s : State) : (setBC v s).a = s.a := rfl
@[simp] theorem setBC_f (v : Word) (s : State) : (setBC v s).f = s.f := rfl
@[simp] theorem setBC_b (v : Word) (s : State) : (setBC v s).b = highByte v := rfl
@[simp] theorem setBC_c (v : Word) (s : State) : (setBC v s).c = lowByte v := rfl
@[simp] theorem setBC_d (v : Word) (s : State) : (setBC v s).d = s.d := rfl
@[simp] theorem setBC_e (v : Word) (s : State) : (setBC v s).e = s.e := rfl
@[simp] theorem setBC_h (v : Word) (s : State) : (setBC v s).h = s.h := rfl
@[simp] theorem setBC_l (v : Word) (s : State) : (setBC v s).l = s.l := rfl
@[simp] theorem setBC_sp (v : Word) (s : State) : (setBC v s).sp = s.sp := rfl
@[simp] theorem setBC_pc (v : Word) (s : State) : (setBC v s).pc = s.pc := rfl
@[simp] theorem setBC_t (v : Word) (s : State) : (setBC v s).t = s.t := rfl
@[simp] theorem setBC_mem (v : Word) (s : State) : (setBC v s).mem = s.mem := rfl
@[simp] theorem setBC_extDraws (v : Word) (s : State) : (setBC v s).extDraws = s.extDraws := rfl

@[simp] theorem setDE_a (v : Word) (s : State) : (setDE v s).a = s.a := rfl
@[simp] theorem setDE_f (v : Word) (s : State) : (setDE v s).f = s.f := rfl
@[simp] theorem setDE_b (v : Word) (s : State) : (setDE v s).b = s.b := rfl
@[simp] theorem setDE_c (v : Word) (s : State) : (setDE v s).c = s.c := rfl
@[simp] theorem setDE_d (v : Word) (s : State) : (setDE v s).d = highByte v := rfl
@[simp] theorem setDE_e (v : Word) (s : State) : (setDE v s).e = lowByte v := rfl
@[simp] theorem setDE_h (v : Word) (s : State) : (setDE v s).h = s.h := rfl
@[simp] theorem setDE_l (v : Word) (s : State) : (setDE v s).l = s.l := rfl
@[simp] theorem setDE_sp (v : Word) (s : State) : (setDE v s).sp = s.sp := rfl
@[simp] theorem setDE_pc (v : Word) (s : State) : (setDE v s).pc = s.pc := rfl
@[simp] theorem setDE_t (v : Word) (s : State) : (setDE v s).t = s.t := rfl
@[simp] theorem setDE_mem (v : Word) (s : State) : (setDE v s).mem = s.mem := rfl
@[simp] theorem setDE_extDraws (v : Word) (s : State) : (setDE v s).extDraws = s.extDraws := rfl

@[simp] theorem setHL_a (v : Word) (s : State) : (setHL v s).a = s.a := rfl
@[simp] theorem setHL_f (v : Word) (s : State) : (setHL v s).f = s.f := rfl
@[simp] theorem setHL_b (v : Word) (s : State) : (setHL v s).b = s.b := rfl
@[simp] theorem setHL_c (v : Word) (s : State) : (setHL v s).c = s.c := rfl
@[simp] theorem setHL_d (v : Word) (s : State) : (setHL v s).d = s.d := rfl
@[simp] theorem setHL_e (v : Word) (s : State) : (setHL v s).e = s.e := rfl
@[simp] theorem setHL_h (v : Word) (s : State) : (setHL v s).h = highByte v := rfl
@[simp] theorem setHL_l (v : Word) (s : State) : (setHL v s).l = lowByte v := rfl
@[simp] theorem setHL_sp (v : Word) (s : State) : (setHL v s).sp = s.sp := rfl
@[simp] theorem setHL_pc (v : Word) (s : State) : (setHL v s).pc = s.pc := rfl
@[simp] theorem setHL_t (v : Word) (s : State) : (setHL v s).t = s.t := rfl
@[simp] theorem setHL_mem (v : Word) (s : State) : (setHL v s).mem = s.mem := rfl
@[simp] theorem setHL_extDraws (v : Word) (s : State) : (setHL v s).extDraws = s.extDraws := rfl

@[simp] theorem writeR_sp (r : R8) (v : Byte) (s : State) : (writeR r v s).sp = s.sp := by cases r <;> rfl
@[simp] theorem writeR_pc (r : R8) (v : Byte) (s : State) : (writeR r v s).pc = s.pc := by cases r <;> rfl
@[simp] theorem writeR_t (r : R8) (v : Byte) (s : State) : (writeR r v s).t = s.t := by cases r <;> rfl
@[simp] theorem writeR_f (r : R8) (v : Byte) (s : State) : (writeR r v s).f = s.f := by cases r <;> rfl
@[simp] theorem writeR_extDraws (r : R8) (v : Byte) (s : State) : (writeR r v s).extDraws = s.extDraws := by cases r <;> rfl

@[simp] theorem writeRp_a (r : Rp) (v : Word) (s : State) : (writeRp r v s).a = s.a := by cases r <;> rfl
@[simp] theorem writeRp_f (r : Rp) (v : Word) (s : State) : (writeRp r v s).f = s.f := by cases r <;> rfl
@[simp] theorem writeRp_pc (r : Rp) (v : Word) (s : State) : (writeRp r v s).pc = s.pc := by cases r <;> rfl
@[simp] theorem writeRp_t (r : Rp) (v : Word) (s : State) : (writeRp r v s).t = s.t := by cases r <;> rfl
@[simp] theorem writeRp_mem (r : Rp) (v : Word) (s : State) : (writeRp r v s).mem = s.mem := by cases r <;> rfl
@[simp] theorem writeRp_extDraws (r : Rp) (v : Word) (s : State) : (writeRp r v s).extDraws = s.extDraws := by cases r <;> rfl

@[simp] theorem writeRf_sp (r : Rf) (v : Word) (s : State) : (writeRf r v s).sp = s.sp := by cases r <;> rfl
@[simp] theorem writeRf_pc (r : Rf) (v : Word) (s : State) : (writeRf r v s).pc = s.pc := by cases r <;> rfl
@[simp] theorem writeRf_t (r : Rf) (v : Word) (s : State) : (writeRf r v s).t = s.t := by cases r <;> rfl
@[simp] theorem writeRf_mem (r : Rf) (v : Word) (s : State) : (writeRf r v s).mem = s.mem := by cases r <;> rfl
@[simp] theorem writeRf_extDraws (r : Rf) (v : Word) (s : State) : (writeRf r v s).extDraws = s.extDraws := by cases r <;> rfl

end Sys2Proof.Machine
end

