-- ==== Sys2Proof/Laws/Operands.lean ====
section
/-! SUPPORT. Laws of the operand accessors: what a read sees after a write, and that every shared operation over memory
keeps its canonical form. -/

namespace Sys2Proof.Machine

/-! ## The pair views (10_state.md R21) -/

@[simp] theorem pairAF_setAF (v : Word) (s : State) : pairAF (setAF v s) = v := compose_high_low v
@[simp] theorem pairBC_setBC (v : Word) (s : State) : pairBC (setBC v s) = v := compose_high_low v
@[simp] theorem pairDE_setDE (v : Word) (s : State) : pairDE (setDE v s) = v := compose_high_low v
@[simp] theorem pairHL_setHL (v : Word) (s : State) : pairHL (setHL v s) = v := compose_high_low v

/-- A read of `rp[i]` after a write of it. -/
@[simp] theorem readRp_writeRp (r : Rp) (v : Word) (s : State) : readRp r (writeRp r v s) = v := by
  cases r <;> simp [readRp, writeRp]

/-- A read of `rf[i]` after a write of it. -/
@[simp] theorem readRf_writeRf (r : Rf) (v : Word) (s : State) : readRf r (writeRf r v s) = v := by
  cases r <;> simp [readRf, writeRf]

/-- HL is the same after a write through `r` that does not name H or L. -/
theorem pairHL_writeR {r : R8} (v : Byte) (s : State) (h : r ≠ .h) (l : r ≠ .l) :
    pairHL (writeR r v s) = pairHL s := by
  cases r <;> first | rfl | contradiction

/-- A read of `r[i]` after a write of it, the byte at HL among them (10_state.md R26). -/
@[simp] theorem readR_writeR (r : R8) (v : Byte) (s : State) : readR r (writeR r v s) = v := by
  cases r <;> first | rfl | exact memRead_memWrite_same _ v s

/-- A write through `r` changes memory only at index 6. -/
theorem writeR_mem {r : R8} (v : Byte) (s : State) (h : r ≠ .ind) : (writeR r v s).mem = s.mem := by
  cases r <;> first | rfl | contradiction

/-! ## The stack (41_primitives.md R173, R175) -/

/-- What is pushed is popped, and SP comes back. -/
theorem popValue_push16 (v : Word) (s : State) : popValue (push16 v s) = v := by
  unfold popValue; rw [push16_sp]; exact memRead16_memWrite16 _ _ _

theorem popState_push16_sp (v : Word) (s : State) : (popState (push16 v s)).sp = s.sp := by
  rw [popState_sp, push16_sp]; bv_omega

/-- Everything a push can do to a byte read. -/
theorem memRead_push16 (b : Word) (v : Word) (s : State) :
    memRead b (push16 v s) =
      if b = s.sp - 2#16 + 1#16 then highByte v else if b = s.sp - 2#16 then lowByte v else memRead b s :=
  memRead_memWrite16 _ _ _ _

/-! ## The canonical form is kept -/

theorem wf_writeR (r : R8) (v : Byte) {s : State} (h : Memory.wf s.mem) : Memory.wf (writeR r v s).mem := by
  cases r <;> first | exact h | exact wf_memWrite _ v h

theorem wf_push16 (v : Word) {s : State} (h : Memory.wf s.mem) : Memory.wf (push16 v s).mem :=
  wf_memWrite16 (s := { s with sp := s.sp - 2#16 }) _ _ h

theorem wf_push8 (v : Byte) {s : State} (h : Memory.wf s.mem) : Memory.wf (push8 v s).mem :=
  wf_memWrite (s := { s with sp := s.sp - 1#16 }) _ _ h

theorem wf_storeBytes (vs : List Byte) (a : Word) {s : State} (h : Memory.wf s.mem) :
    Memory.wf (storeBytes vs a s).mem := by
  induction vs generalizing a s with
  | nil => exact h
  | cons v vs ih => exact ih _ (wf_memWrite a v h)

theorem wf_loadImage (image : List (Word × Byte)) {s : State} (h : Memory.wf s.mem) :
    Memory.wf (s.loadImage image).mem := by
  induction image generalizing s with
  | nil => exact h
  | cons x image ih => exact ih (wf_memWrite x.1 x.2 h)

theorem wf_externalWriteAt (a : Word) {s : State} (h : Memory.wf s.mem) :
    Memory.wf (externalWriteAt a s).mem := by
  unfold externalWriteAt
  split
  · exact wf_memWrite (s := { s with extDraws := s.extDraws + 1 }) _ _ h
  · exact h

theorem wf_externalWrites (addrs : List Word) {s : State} (h : Memory.wf s.mem) :
    Memory.wf (externalWrites addrs s).mem := by
  induction addrs generalizing s with
  | nil => exact h
  | cons a addrs ih => exact ih (wf_externalWriteAt a h)

theorem wf_reset : Memory.wf State.reset.mem := by decide

end Sys2Proof.Machine
end

