-- ==== Sys2Proof/Laws/PerInstr.lean ====
section
/-! SUPPORT. Statements made per instruction: the family EncodeLength, that an instruction is written in as many bytes as
its opcode byte says (30_encoding.md R80, R81, R102). -/

namespace Sys2Proof.Laws.EncodeLength

/-- The encoding has the length its first byte gives, which is 1, 2 or 3 (R80, R81). -/
def Statement (i : Instr) : Prop :=
  ∃ b0 rest, encode i = b0 :: rest ∧ rest.length + 1 = opcodeLength b0 ∧ opcodeLength b0 ≤ 3

theorem nop : Statement .nop := ⟨_, _, rfl, rfl, by decide⟩
theorem ldBcNn (nn : Word) : Statement (.ldBcNn nn) := ⟨_, _, rfl, rfl, by decide⟩
theorem ldIndBcA : Statement .ldIndBcA := ⟨_, _, rfl, rfl, by decide⟩
theorem incBc : Statement .incBc := ⟨_, _, rfl, rfl, by decide⟩
theorem incB : Statement .incB := ⟨_, _, rfl, rfl, by decide⟩
theorem decB : Statement .decB := ⟨_, _, rfl, rfl, by decide⟩
theorem ldBN (n : Byte) : Statement (.ldBN n) := ⟨_, _, rfl, rfl, by decide⟩
theorem rlca : Statement .rlca := ⟨_, _, rfl, rfl, by decide⟩
theorem ldIndNnSp (nn : Word) : Statement (.ldIndNnSp nn) := ⟨_, _, rfl, rfl, by decide⟩
theorem addHlBc : Statement .addHlBc := ⟨_, _, rfl, rfl, by decide⟩
theorem ldAIndBc : Statement .ldAIndBc := ⟨_, _, rfl, rfl, by decide⟩
theorem decBc : Statement .decBc := ⟨_, _, rfl, rfl, by decide⟩
theorem incC : Statement .incC := ⟨_, _, rfl, rfl, by decide⟩
theorem decC : Statement .decC := ⟨_, _, rfl, rfl, by decide⟩
theorem ldCN (n : Byte) : Statement (.ldCN n) := ⟨_, _, rfl, rfl, by decide⟩
theorem rrca : Statement .rrca := ⟨_, _, rfl, rfl, by decide⟩
theorem stop : Statement .stop := ⟨_, _, rfl, rfl, by decide⟩
theorem ldDeNn (nn : Word) : Statement (.ldDeNn nn) := ⟨_, _, rfl, rfl, by decide⟩
theorem ldIndDeA : Statement .ldIndDeA := ⟨_, _, rfl, rfl, by decide⟩
theorem incDe : Statement .incDe := ⟨_, _, rfl, rfl, by decide⟩
theorem incD : Statement .incD := ⟨_, _, rfl, rfl, by decide⟩
theorem decD : Statement .decD := ⟨_, _, rfl, rfl, by decide⟩
theorem ldDN (n : Byte) : Statement (.ldDN n) := ⟨_, _, rfl, rfl, by decide⟩
theorem rla : Statement .rla := ⟨_, _, rfl, rfl, by decide⟩
theorem jrD (d : Byte) : Statement (.jrD d) := ⟨_, _, rfl, rfl, by decide⟩
theorem addHlDe : Statement .addHlDe := ⟨_, _, rfl, rfl, by decide⟩
theorem ldAIndDe : Statement .ldAIndDe := ⟨_, _, rfl, rfl, by decide⟩
theorem decDe : Statement .decDe := ⟨_, _, rfl, rfl, by decide⟩
theorem incE : Statement .incE := ⟨_, _, rfl, rfl, by decide⟩
theorem decE : Statement .decE := ⟨_, _, rfl, rfl, by decide⟩
theorem ldEN (n : Byte) : Statement (.ldEN n) := ⟨_, _, rfl, rfl, by decide⟩
theorem rra : Statement .rra := ⟨_, _, rfl, rfl, by decide⟩
theorem jrNzD (d : Byte) : Statement (.jrNzD d) := ⟨_, _, rfl, rfl, by decide⟩
theorem ldHlNn (nn : Word) : Statement (.ldHlNn nn) := ⟨_, _, rfl, rfl, by decide⟩
theorem ldIndHlIncA : Statement .ldIndHlIncA := ⟨_, _, rfl, rfl, by decide⟩
theorem incHl : Statement .incHl := ⟨_, _, rfl, rfl, by decide⟩
theorem incH : Statement .incH := ⟨_, _, rfl, rfl, by decide⟩
theorem decH : Statement .decH := ⟨_, _, rfl, rfl, by decide⟩
theorem ldHN (n : Byte) : Statement (.ldHN n) := ⟨_, _, rfl, rfl, by decide⟩
theorem daa : Statement .daa := ⟨_, _, rfl, rfl, by decide⟩
theorem jrZD (d : Byte) : Statement (.jrZD d) := ⟨_, _, rfl, rfl, by decide⟩
theorem addHlHl : Statement .addHlHl := ⟨_, _, rfl, rfl, by decide⟩
theorem ldAIndHlInc : Statement .ldAIndHlInc := ⟨_, _, rfl, rfl, by decide⟩
theorem decHl : Statement .decHl := ⟨_, _, rfl, rfl, by decide⟩
theorem incL : Statement .incL := ⟨_, _, rfl, rfl, by decide⟩
theorem decL : Statement .decL := ⟨_, _, rfl, rfl, by decide⟩
theorem ldLN (n : Byte) : Statement (.ldLN n) := ⟨_, _, rfl, rfl, by decide⟩
theorem cpl : Statement .cpl := ⟨_, _, rfl, rfl, by decide⟩
theorem jrNcD (d : Byte) : Statement (.jrNcD d) := ⟨_, _, rfl, rfl, by decide⟩
theorem ldSpNn (nn : Word) : Statement (.ldSpNn nn) := ⟨_, _, rfl, rfl, by decide⟩
theorem ldIndHlDecA : Statement .ldIndHlDecA := ⟨_, _, rfl, rfl, by decide⟩
theorem incSp : Statement .incSp := ⟨_, _, rfl, rfl, by decide⟩
theorem incIndHl : Statement .incIndHl := ⟨_, _, rfl, rfl, by decide⟩
theorem decIndHl : Statement .decIndHl := ⟨_, _, rfl, rfl, by decide⟩
theorem ldIndHlN (n : Byte) : Statement (.ldIndHlN n) := ⟨_, _, rfl, rfl, by decide⟩
theorem scf : Statement .scf := ⟨_, _, rfl, rfl, by decide⟩
theorem jrCD (d : Byte) : Statement (.jrCD d) := ⟨_, _, rfl, rfl, by decide⟩
theorem addHlSp : Statement .addHlSp := ⟨_, _, rfl, rfl, by decide⟩
theorem ldAIndHlDec : Statement .ldAIndHlDec := ⟨_, _, rfl, rfl, by decide⟩
theorem decSp : Statement .decSp := ⟨_, _, rfl, rfl, by decide⟩
theorem incA : Statement .incA := ⟨_, _, rfl, rfl, by decide⟩
theorem decA : Statement .decA := ⟨_, _, rfl, rfl, by decide⟩
theorem ldAN (n : Byte) : Statement (.ldAN n) := ⟨_, _, rfl, rfl, by decide⟩
theorem ccf : Statement .ccf := ⟨_, _, rfl, rfl, by decide⟩
theorem ldBB : Statement .ldBB := ⟨_, _, rfl, rfl, by decide⟩
theorem ldBC : Statement .ldBC := ⟨_, _, rfl, rfl, by decide⟩
theorem ldBD : Statement .ldBD := ⟨_, _, rfl, rfl, by decide⟩
theorem ldBE : Statement .ldBE := ⟨_, _, rfl, rfl, by decide⟩
theorem ldBH : Statement .ldBH := ⟨_, _, rfl, rfl, by decide⟩
theorem ldBL : Statement .ldBL := ⟨_, _, rfl, rfl, by decide⟩
theorem ldBIndHl : Statement .ldBIndHl := ⟨_, _, rfl, rfl, by decide⟩
theorem ldBA : Statement .ldBA := ⟨_, _, rfl, rfl, by decide⟩
theorem ldCB : Statement .ldCB := ⟨_, _, rfl, rfl, by decide⟩
theorem ldCC : Statement .ldCC := ⟨_, _, rfl, rfl, by decide⟩
theorem ldCD : Statement .ldCD := ⟨_, _, rfl, rfl, by decide⟩
theorem ldCE : Statement .ldCE := ⟨_, _, rfl, rfl, by decide⟩
theorem ldCH : Statement .ldCH := ⟨_, _, rfl, rfl, by decide⟩
theorem ldCL : Statement .ldCL := ⟨_, _, rfl, rfl, by decide⟩
theorem ldCIndHl : Statement .ldCIndHl := ⟨_, _, rfl, rfl, by decide⟩
theorem ldCA : Statement .ldCA := ⟨_, _, rfl, rfl, by decide⟩
theorem ldDB : Statement .ldDB := ⟨_, _, rfl, rfl, by decide⟩
theorem ldDC : Statement .ldDC := ⟨_, _, rfl, rfl, by decide⟩
theorem ldDD : Statement .ldDD := ⟨_, _, rfl, rfl, by decide⟩
theorem ldDE : Statement .ldDE := ⟨_, _, rfl, rfl, by decide⟩
theorem ldDH : Statement .ldDH := ⟨_, _, rfl, rfl, by decide⟩
theorem ldDL : Statement .ldDL := ⟨_, _, rfl, rfl, by decide⟩
theorem ldDIndHl : Statement .ldDIndHl := ⟨_, _, rfl, rfl, by decide⟩
theorem ldDA : Statement .ldDA := ⟨_, _, rfl, rfl, by decide⟩
theorem ldEB : Statement .ldEB := ⟨_, _, rfl, rfl, by decide⟩
theorem ldEC : Statement .ldEC := ⟨_, _, rfl, rfl, by decide⟩
theorem ldED : Statement .ldED := ⟨_, _, rfl, rfl, by decide⟩
theorem ldEE : Statement .ldEE := ⟨_, _, rfl, rfl, by decide⟩
theorem ldEH : Statement .ldEH := ⟨_, _, rfl, rfl, by decide⟩
theorem ldEL : Statement .ldEL := ⟨_, _, rfl, rfl, by decide⟩
theorem ldEIndHl : Statement .ldEIndHl := ⟨_, _, rfl, rfl, by decide⟩
theorem ldEA : Statement .ldEA := ⟨_, _, rfl, rfl, by decide⟩
theorem ldHB : Statement .ldHB := ⟨_, _, rfl, rfl, by decide⟩
theorem ldHC : Statement .ldHC := ⟨_, _, rfl, rfl, by decide⟩
theorem ldHD : Statement .ldHD := ⟨_, _, rfl, rfl, by decide⟩
theorem ldHE : Statement .ldHE := ⟨_, _, rfl, rfl, by decide⟩
theorem ldHH : Statement .ldHH := ⟨_, _, rfl, rfl, by decide⟩
theorem ldHL : Statement .ldHL := ⟨_, _, rfl, rfl, by decide⟩
theorem ldHIndHl : Statement .ldHIndHl := ⟨_, _, rfl, rfl, by decide⟩
theorem ldHA : Statement .ldHA := ⟨_, _, rfl, rfl, by decide⟩
theorem ldLB : Statement .ldLB := ⟨_, _, rfl, rfl, by decide⟩
theorem ldLC : Statement .ldLC := ⟨_, _, rfl, rfl, by decide⟩
theorem ldLD : Statement .ldLD := ⟨_, _, rfl, rfl, by decide⟩
theorem ldLE : Statement .ldLE := ⟨_, _, rfl, rfl, by decide⟩
theorem ldLH : Statement .ldLH := ⟨_, _, rfl, rfl, by decide⟩
theorem ldLL : Statement .ldLL := ⟨_, _, rfl, rfl, by decide⟩
theorem ldLIndHl : Statement .ldLIndHl := ⟨_, _, rfl, rfl, by decide⟩
theorem ldLA : Statement .ldLA := ⟨_, _, rfl, rfl, by decide⟩
theorem ldIndHlB : Statement .ldIndHlB := ⟨_, _, rfl, rfl, by decide⟩
theorem ldIndHlC : Statement .ldIndHlC := ⟨_, _, rfl, rfl, by decide⟩
theorem ldIndHlD : Statement .ldIndHlD := ⟨_, _, rfl, rfl, by decide⟩
theorem ldIndHlE : Statement .ldIndHlE := ⟨_, _, rfl, rfl, by decide⟩
theorem ldIndHlH : Statement .ldIndHlH := ⟨_, _, rfl, rfl, by decide⟩
theorem ldIndHlL : Statement .ldIndHlL := ⟨_, _, rfl, rfl, by decide⟩
theorem halt : Statement .halt := ⟨_, _, rfl, rfl, by decide⟩
theorem ldIndHlA : Statement .ldIndHlA := ⟨_, _, rfl, rfl, by decide⟩
theorem ldAB : Statement .ldAB := ⟨_, _, rfl, rfl, by decide⟩
theorem ldAC : Statement .ldAC := ⟨_, _, rfl, rfl, by decide⟩
theorem ldAD : Statement .ldAD := ⟨_, _, rfl, rfl, by decide⟩
theorem ldAE : Statement .ldAE := ⟨_, _, rfl, rfl, by decide⟩
theorem ldAH : Statement .ldAH := ⟨_, _, rfl, rfl, by decide⟩
theorem ldAL : Statement .ldAL := ⟨_, _, rfl, rfl, by decide⟩
theorem ldAIndHl : Statement .ldAIndHl := ⟨_, _, rfl, rfl, by decide⟩
theorem ldAA : Statement .ldAA := ⟨_, _, rfl, rfl, by decide⟩
theorem addAB : Statement .addAB := ⟨_, _, rfl, rfl, by decide⟩
theorem addAC : Statement .addAC := ⟨_, _, rfl, rfl, by decide⟩
theorem addAD : Statement .addAD := ⟨_, _, rfl, rfl, by decide⟩
theorem addAE : Statement .addAE := ⟨_, _, rfl, rfl, by decide⟩
theorem addAH : Statement .addAH := ⟨_, _, rfl, rfl, by decide⟩
theorem addAL : Statement .addAL := ⟨_, _, rfl, rfl, by decide⟩
theorem addAIndHl : Statement .addAIndHl := ⟨_, _, rfl, rfl, by decide⟩
theorem addAA : Statement .addAA := ⟨_, _, rfl, rfl, by decide⟩
theorem adcAB : Statement .adcAB := ⟨_, _, rfl, rfl, by decide⟩
theorem adcAC : Statement .adcAC := ⟨_, _, rfl, rfl, by decide⟩
theorem adcAD : Statement .adcAD := ⟨_, _, rfl, rfl, by decide⟩
theorem adcAE : Statement .adcAE := ⟨_, _, rfl, rfl, by decide⟩
theorem adcAH : Statement .adcAH := ⟨_, _, rfl, rfl, by decide⟩
theorem adcAL : Statement .adcAL := ⟨_, _, rfl, rfl, by decide⟩
theorem adcAIndHl : Statement .adcAIndHl := ⟨_, _, rfl, rfl, by decide⟩
theorem adcAA : Statement .adcAA := ⟨_, _, rfl, rfl, by decide⟩
theorem subAB : Statement .subAB := ⟨_, _, rfl, rfl, by decide⟩
theorem subAC : Statement .subAC := ⟨_, _, rfl, rfl, by decide⟩
theorem subAD : Statement .subAD := ⟨_, _, rfl, rfl, by decide⟩
theorem subAE : Statement .subAE := ⟨_, _, rfl, rfl, by decide⟩
theorem subAH : Statement .subAH := ⟨_, _, rfl, rfl, by decide⟩
theorem subAL : Statement .subAL := ⟨_, _, rfl, rfl, by decide⟩
theorem subAIndHl : Statement .subAIndHl := ⟨_, _, rfl, rfl, by decide⟩
theorem subAA : Statement .subAA := ⟨_, _, rfl, rfl, by decide⟩
theorem sbcAB : Statement .sbcAB := ⟨_, _, rfl, rfl, by decide⟩
theorem sbcAC : Statement .sbcAC := ⟨_, _, rfl, rfl, by decide⟩
theorem sbcAD : Statement .sbcAD := ⟨_, _, rfl, rfl, by decide⟩
theorem sbcAE : Statement .sbcAE := ⟨_, _, rfl, rfl, by decide⟩
theorem sbcAH : Statement .sbcAH := ⟨_, _, rfl, rfl, by decide⟩
theorem sbcAL : Statement .sbcAL := ⟨_, _, rfl, rfl, by decide⟩
theorem sbcAIndHl : Statement .sbcAIndHl := ⟨_, _, rfl, rfl, by decide⟩
theorem sbcAA : Statement .sbcAA := ⟨_, _, rfl, rfl, by decide⟩
theorem andAB : Statement .andAB := ⟨_, _, rfl, rfl, by decide⟩
theorem andAC : Statement .andAC := ⟨_, _, rfl, rfl, by decide⟩
theorem andAD : Statement .andAD := ⟨_, _, rfl, rfl, by decide⟩
theorem andAE : Statement .andAE := ⟨_, _, rfl, rfl, by decide⟩
theorem andAH : Statement .andAH := ⟨_, _, rfl, rfl, by decide⟩
theorem andAL : Statement .andAL := ⟨_, _, rfl, rfl, by decide⟩
theorem andAIndHl : Statement .andAIndHl := ⟨_, _, rfl, rfl, by decide⟩
theorem andAA : Statement .andAA := ⟨_, _, rfl, rfl, by decide⟩
theorem xorAB : Statement .xorAB := ⟨_, _, rfl, rfl, by decide⟩
theorem xorAC : Statement .xorAC := ⟨_, _, rfl, rfl, by decide⟩
theorem xorAD : Statement .xorAD := ⟨_, _, rfl, rfl, by decide⟩
theorem xorAE : Statement .xorAE := ⟨_, _, rfl, rfl, by decide⟩
theorem xorAH : Statement .xorAH := ⟨_, _, rfl, rfl, by decide⟩
theorem xorAL : Statement .xorAL := ⟨_, _, rfl, rfl, by decide⟩
theorem xorAIndHl : Statement .xorAIndHl := ⟨_, _, rfl, rfl, by decide⟩
theorem xorAA : Statement .xorAA := ⟨_, _, rfl, rfl, by decide⟩
theorem orAB : Statement .orAB := ⟨_, _, rfl, rfl, by decide⟩
theorem orAC : Statement .orAC := ⟨_, _, rfl, rfl, by decide⟩
theorem orAD : Statement .orAD := ⟨_, _, rfl, rfl, by decide⟩
theorem orAE : Statement .orAE := ⟨_, _, rfl, rfl, by decide⟩
theorem orAH : Statement .orAH := ⟨_, _, rfl, rfl, by decide⟩
theorem orAL : Statement .orAL := ⟨_, _, rfl, rfl, by decide⟩
theorem orAIndHl : Statement .orAIndHl := ⟨_, _, rfl, rfl, by decide⟩
theorem orAA : Statement .orAA := ⟨_, _, rfl, rfl, by decide⟩
theorem cpAB : Statement .cpAB := ⟨_, _, rfl, rfl, by decide⟩
theorem cpAC : Statement .cpAC := ⟨_, _, rfl, rfl, by decide⟩
theorem cpAD : Statement .cpAD := ⟨_, _, rfl, rfl, by decide⟩
theorem cpAE : Statement .cpAE := ⟨_, _, rfl, rfl, by decide⟩
theorem cpAH : Statement .cpAH := ⟨_, _, rfl, rfl, by decide⟩
theorem cpAL : Statement .cpAL := ⟨_, _, rfl, rfl, by decide⟩
theorem cpAIndHl : Statement .cpAIndHl := ⟨_, _, rfl, rfl, by decide⟩
theorem cpAA : Statement .cpAA := ⟨_, _, rfl, rfl, by decide⟩
theorem retNz : Statement .retNz := ⟨_, _, rfl, rfl, by decide⟩
theorem popBc : Statement .popBc := ⟨_, _, rfl, rfl, by decide⟩
theorem jpNzNn (nn : Word) : Statement (.jpNzNn nn) := ⟨_, _, rfl, rfl, by decide⟩
theorem jpNn (nn : Word) : Statement (.jpNn nn) := ⟨_, _, rfl, rfl, by decide⟩
theorem callNzNn (nn : Word) : Statement (.callNzNn nn) := ⟨_, _, rfl, rfl, by decide⟩
theorem pushBc : Statement .pushBc := ⟨_, _, rfl, rfl, by decide⟩
theorem addAN (n : Byte) : Statement (.addAN n) := ⟨_, _, rfl, rfl, by decide⟩
theorem rst00 : Statement .rst00 := ⟨_, _, rfl, rfl, by decide⟩
theorem retZ : Statement .retZ := ⟨_, _, rfl, rfl, by decide⟩
theorem ret : Statement .ret := ⟨_, _, rfl, rfl, by decide⟩
theorem jpZNn (nn : Word) : Statement (.jpZNn nn) := ⟨_, _, rfl, rfl, by decide⟩
theorem prefixCb (b1 : Byte) : Statement (.prefixCb b1) := ⟨_, _, rfl, rfl, by decide⟩
theorem callZNn (nn : Word) : Statement (.callZNn nn) := ⟨_, _, rfl, rfl, by decide⟩
theorem callNn (nn : Word) : Statement (.callNn nn) := ⟨_, _, rfl, rfl, by decide⟩
theorem adcAN (n : Byte) : Statement (.adcAN n) := ⟨_, _, rfl, rfl, by decide⟩
theorem rst08 : Statement .rst08 := ⟨_, _, rfl, rfl, by decide⟩
theorem retNc : Statement .retNc := ⟨_, _, rfl, rfl, by decide⟩
theorem popDe : Statement .popDe := ⟨_, _, rfl, rfl, by decide⟩
theorem jpNcNn (nn : Word) : Statement (.jpNcNn nn) := ⟨_, _, rfl, rfl, by decide⟩
theorem unrecognisedD3 : Statement .unrecognisedD3 := ⟨_, _, rfl, rfl, by decide⟩
theorem callNcNn (nn : Word) : Statement (.callNcNn nn) := ⟨_, _, rfl, rfl, by decide⟩
theorem pushDe : Statement .pushDe := ⟨_, _, rfl, rfl, by decide⟩
theorem subAN (n : Byte) : Statement (.subAN n) := ⟨_, _, rfl, rfl, by decide⟩
theorem rst10 : Statement .rst10 := ⟨_, _, rfl, rfl, by decide⟩
theorem retC : Statement .retC := ⟨_, _, rfl, rfl, by decide⟩
theorem reti : Statement .reti := ⟨_, _, rfl, rfl, by decide⟩
theorem jpCNn (nn : Word) : Statement (.jpCNn nn) := ⟨_, _, rfl, rfl, by decide⟩
theorem unrecognisedDB : Statement .unrecognisedDB := ⟨_, _, rfl, rfl, by decide⟩
theorem callCNn (nn : Word) : Statement (.callCNn nn) := ⟨_, _, rfl, rfl, by decide⟩
theorem unrecognisedDD : Statement .unrecognisedDD := ⟨_, _, rfl, rfl, by decide⟩
theorem sbcAN (n : Byte) : Statement (.sbcAN n) := ⟨_, _, rfl, rfl, by decide⟩
theorem rst18 : Statement .rst18 := ⟨_, _, rfl, rfl, by decide⟩
theorem ldhIndNA (n : Byte) : Statement (.ldhIndNA n) := ⟨_, _, rfl, rfl, by decide⟩
theorem popHl : Statement .popHl := ⟨_, _, rfl, rfl, by decide⟩
theorem ldhIndCA : Statement .ldhIndCA := ⟨_, _, rfl, rfl, by decide⟩
theorem unrecognisedE3 : Statement .unrecognisedE3 := ⟨_, _, rfl, rfl, by decide⟩
theorem unrecognisedE4 : Statement .unrecognisedE4 := ⟨_, _, rfl, rfl, by decide⟩
theorem pushHl : Statement .pushHl := ⟨_, _, rfl, rfl, by decide⟩
theorem andAN (n : Byte) : Statement (.andAN n) := ⟨_, _, rfl, rfl, by decide⟩
theorem rst20 : Statement .rst20 := ⟨_, _, rfl, rfl, by decide⟩
theorem addSpD (d : Byte) : Statement (.addSpD d) := ⟨_, _, rfl, rfl, by decide⟩
theorem jpHl : Statement .jpHl := ⟨_, _, rfl, rfl, by decide⟩
theorem ldIndNnA (nn : Word) : Statement (.ldIndNnA nn) := ⟨_, _, rfl, rfl, by decide⟩
theorem unrecognisedEB : Statement .unrecognisedEB := ⟨_, _, rfl, rfl, by decide⟩
theorem unrecognisedEC : Statement .unrecognisedEC := ⟨_, _, rfl, rfl, by decide⟩
theorem unrecognisedED : Statement .unrecognisedED := ⟨_, _, rfl, rfl, by decide⟩
theorem xorAN (n : Byte) : Statement (.xorAN n) := ⟨_, _, rfl, rfl, by decide⟩
theorem rst28 : Statement .rst28 := ⟨_, _, rfl, rfl, by decide⟩
theorem ldhAIndN (n : Byte) : Statement (.ldhAIndN n) := ⟨_, _, rfl, rfl, by decide⟩
theorem popAf : Statement .popAf := ⟨_, _, rfl, rfl, by decide⟩
theorem ldhAIndC : Statement .ldhAIndC := ⟨_, _, rfl, rfl, by decide⟩
theorem di : Statement .di := ⟨_, _, rfl, rfl, by decide⟩
theorem unrecognisedF4 : Statement .unrecognisedF4 := ⟨_, _, rfl, rfl, by decide⟩
theorem pushAf : Statement .pushAf := ⟨_, _, rfl, rfl, by decide⟩
theorem orAN (n : Byte) : Statement (.orAN n) := ⟨_, _, rfl, rfl, by decide⟩
theorem rst30 : Statement .rst30 := ⟨_, _, rfl, rfl, by decide⟩
theorem ldHlSpD (d : Byte) : Statement (.ldHlSpD d) := ⟨_, _, rfl, rfl, by decide⟩
theorem ldSpHl : Statement .ldSpHl := ⟨_, _, rfl, rfl, by decide⟩
theorem ldAIndNn (nn : Word) : Statement (.ldAIndNn nn) := ⟨_, _, rfl, rfl, by decide⟩
theorem ei : Statement .ei := ⟨_, _, rfl, rfl, by decide⟩
theorem unrecognisedFC : Statement .unrecognisedFC := ⟨_, _, rfl, rfl, by decide⟩
theorem unrecognisedFD : Statement .unrecognisedFD := ⟨_, _, rfl, rfl, by decide⟩
theorem cpAN (n : Byte) : Statement (.cpAN n) := ⟨_, _, rfl, rfl, by decide⟩
theorem rst38 : Statement .rst38 := ⟨_, _, rfl, rfl, by decide⟩
theorem rlcR (z : R8) : Statement (.rlcR z) := ⟨_, _, rfl, rfl, by decide⟩
theorem rrcR (z : R8) : Statement (.rrcR z) := ⟨_, _, rfl, rfl, by decide⟩
theorem rlR (z : R8) : Statement (.rlR z) := ⟨_, _, rfl, rfl, by decide⟩
theorem rrR (z : R8) : Statement (.rrR z) := ⟨_, _, rfl, rfl, by decide⟩
theorem slaR (z : R8) : Statement (.slaR z) := ⟨_, _, rfl, rfl, by decide⟩
theorem sraR (z : R8) : Statement (.sraR z) := ⟨_, _, rfl, rfl, by decide⟩
theorem swapR (z : R8) : Statement (.swapR z) := ⟨_, _, rfl, rfl, by decide⟩
theorem srlR (z : R8) : Statement (.srlR z) := ⟨_, _, rfl, rfl, by decide⟩
theorem bit0 (z : R8) : Statement (.bit0 z) := ⟨_, _, rfl, rfl, by decide⟩
theorem bit1 (z : R8) : Statement (.bit1 z) := ⟨_, _, rfl, rfl, by decide⟩
theorem bit2 (z : R8) : Statement (.bit2 z) := ⟨_, _, rfl, rfl, by decide⟩
theorem bit3 (z : R8) : Statement (.bit3 z) := ⟨_, _, rfl, rfl, by decide⟩
theorem bit4 (z : R8) : Statement (.bit4 z) := ⟨_, _, rfl, rfl, by decide⟩
theorem bit5 (z : R8) : Statement (.bit5 z) := ⟨_, _, rfl, rfl, by decide⟩
theorem bit6 (z : R8) : Statement (.bit6 z) := ⟨_, _, rfl, rfl, by decide⟩
theorem bit7 (z : R8) : Statement (.bit7 z) := ⟨_, _, rfl, rfl, by decide⟩
theorem res0 (z : R8) : Statement (.res0 z) := ⟨_, _, rfl, rfl, by decide⟩
theorem res1 (z : R8) : Statement (.res1 z) := ⟨_, _, rfl, rfl, by decide⟩
theorem res2 (z : R8) : Statement (.res2 z) := ⟨_, _, rfl, rfl, by decide⟩
theorem res3 (z : R8) : Statement (.res3 z) := ⟨_, _, rfl, rfl, by decide⟩
theorem res4 (z : R8) : Statement (.res4 z) := ⟨_, _, rfl, rfl, by decide⟩
theorem res5 (z : R8) : Statement (.res5 z) := ⟨_, _, rfl, rfl, by decide⟩
theorem res6 (z : R8) : Statement (.res6 z) := ⟨_, _, rfl, rfl, by decide⟩
theorem res7 (z : R8) : Statement (.res7 z) := ⟨_, _, rfl, rfl, by decide⟩
theorem set0 (z : R8) : Statement (.set0 z) := ⟨_, _, rfl, rfl, by decide⟩
theorem set1 (z : R8) : Statement (.set1 z) := ⟨_, _, rfl, rfl, by decide⟩
theorem set2 (z : R8) : Statement (.set2 z) := ⟨_, _, rfl, rfl, by decide⟩
theorem set3 (z : R8) : Statement (.set3 z) := ⟨_, _, rfl, rfl, by decide⟩
theorem set4 (z : R8) : Statement (.set4 z) := ⟨_, _, rfl, rfl, by decide⟩
theorem set5 (z : R8) : Statement (.set5 z) := ⟨_, _, rfl, rfl, by decide⟩
theorem set6 (z : R8) : Statement (.set6 z) := ⟨_, _, rfl, rfl, by decide⟩
theorem set7 (z : R8) : Statement (.set7 z) := ⟨_, _, rfl, rfl, by decide⟩

end Sys2Proof.Laws.EncodeLength
end

