-- ==== Sys2Proof/Laws/Step.lean ====
section
/-! SUPPORT. What one transition can be, and the flag byte of every ALU function. -/

namespace Sys2Proof.Machine

/-- With no external writer, a transition is the core's alone (20_memory.md R66). -/
theorem externalWrites_default (s : State) : externalWrites Config.extWrites s = s := rfl

/-- Everything a transition of the core can be: a Tick at t > 0, the meaning of the instruction at PC at t = 0, or the
stall of a window the decoder refuses. -/
theorem coreStep_cases {s s' : State} (h : coreStep s = .next s') :
    (s.t ≠ 0 ∧ s' = tick s) ∨
    (s.t = 0 ∧ ∃ i, decodeWindow (fetchWindow s).1 (fetchWindow s).2.1 (fetchWindow s).2.2 = .ok i ∧
      exec i s = .next s') ∨
    (s.t = 0 ∧ s' = s) := by
  unfold coreStep execute at h
  split at h
  · rename_i ht
    split at h
    · rename_i i hi; exact .inr (.inl ⟨ht, i, hi, h⟩)
    · cases h; exact .inr (.inr ⟨ht, rfl⟩)
  · cases h; exact .inl ⟨‹_›, rfl⟩

/-- The host's run takes one transition at a time. -/
theorem run_succ {k : Nat} {s u : State} (h : step s = .next u) :
    Host.Core.run core (k + 1) s = Host.Core.run core k u := by
  have h' : core.step s = .next u := h
  simp only [Host.Core.run, h']

/-! ## Every ALU function writes F through `flags` -/

@[simp] theorem aluApply_low_nibble (op : AluOp) (a b f : Byte) :
    (aluApply op a b f).2.extractLsb' 0 4 = 0#4 := by
  cases op <;> exact flags_low_nibble _ _ _ _

@[simp] theorem rotApply_low_nibble (op : RotOp) (v f : Byte) : (rotApply op v f).2.extractLsb' 0 4 = 0#4 := by
  cases op <;> exact flags_low_nibble _ _ _ _

@[simp] theorem addsp_low_nibble (m : SpdFlags) (w : Word) (b : Byte) :
    (addsp m w b).2.extractLsb' 0 4 = 0#4 := by
  cases m <;> exact flags_low_nibble _ _ _ _

@[simp] theorem inc8_low_nibble (v f : Byte) : (inc8 v f).2.extractLsb' 0 4 = 0#4 := flags_low_nibble _ _ _ _
@[simp] theorem dec8_low_nibble (v f : Byte) : (dec8 v f).2.extractLsb' 0 4 = 0#4 := flags_low_nibble _ _ _ _
@[simp] theorem daa_low_nibble (a f : Byte) : (daa a f).2.extractLsb' 0 4 = 0#4 := flags_low_nibble _ _ _ _
@[simp] theorem cpl_low_nibble (a f : Byte) : (cpl a f).2.extractLsb' 0 4 = 0#4 := flags_low_nibble _ _ _ _
@[simp] theorem bitFlags_low_nibble (i : Fin 8) (v f : Byte) :
    (bitFlags i v f).extractLsb' 0 4 = 0#4 := flags_low_nibble _ _ _ _

/-- The F that POP AF loads has a zero low nibble (46_x3_block.md R305). -/
theorem popMask_low_nibble (v : Word) : (lowByte (popMask .af v)).extractLsb' 0 4 = 0#4 := by
  show ((v &&& 0xFFF0#16).extractLsb' 0 8).extractLsb' 0 4 = 0#4
  apply BitVec.eq_of_getLsbD_eq
  intro i hi
  simp only [BitVec.getLsbD_extractLsb', BitVec.getLsbD_and, BitVec.getLsbD_zero]
  have : i = 0 ∨ i = 1 ∨ i = 2 ∨ i = 3 := by omega
  rcases this with rfl | rfl | rfl | rfl <;> simp

end Sys2Proof.Machine
end

