-- ==== Sys2Proof/Tests/Slice0.lean ====
section
/-! SUPPORT. Tests. Words come from the spec's encodings (30_encoding.md R94, R98), vectors from 95_test_vectors.md; at the
end one witness for each obligation that has hypotheses. -/

namespace Sys2Proof.Tests

open Sys2Proof.Machine Sys2Proof.Claims

/-! ## Well-formedness: what each check refuses -/

/-- The prefix row is not the decoding of any bytes (log 20). -/
theorem test_prefixCb_is_refused : (Instr.prefixCb 0x7C#8).wellFormed = false := by decide

/-- Without `HAS_ABS_A` the two absolute forms are not instructions (30_encoding.md R95, R317, R319). -/
theorem test_absolute_forms_are_refused_without_hasAbsA :
    (Instr.ldIndNnA 0xC000#16).wellFormedWith false = false ∧
      (Instr.ldAIndNn 0xC000#16).wellFormedWith false = false := by decide

/-- With it they are, and every operand of the others is. -/
theorem test_wellFormed_accepts :
    (Instr.ldIndNnA 0xFFFF#16).wellFormed = true ∧ (Instr.ldAIndNn 0x0000#16).wellFormed = true ∧
      (Instr.bit7 .ind).wellFormed = true ∧ Instr.unrecognisedDD.wellFormed = true := by decide

/-! ## Decoding by number -/

/-- Every window whose first byte is given, with n = d = 0x34 and nn = 0x1234, decodes to the instruction beside it. -/
def decodesAs (rows : List (Byte × Instr)) : Bool :=
  rows.all fun row =>
    match decodeWindow row.1 0x34#8 0x12#8 with
    | .ok i => i == row.2
    | .error _ => false

/-- The eight sub-opcodes of a CB row decode to the row's instruction on B, C, D, E, H, L, (HL), A in this order. -/
def decodesCbRow (first : Byte) (instr : R8 → Instr) : Bool :=
  [(0x00#8, R8.b), (0x01#8, .c), (0x02#8, .d), (0x03#8, .e), (0x04#8, .h), (0x05#8, .l), (0x06#8, .ind),
      (0x07#8, .a)].all fun p =>
    match decodeWindow 0xCB#8 (first + p.1) 0x00#8 with
    | .ok i => i == instr p.2
    | .error _ => false

/-! ### The grid of 30_encoding.md R94, row by row -/

theorem test_decode_row_0 :
    decodesAs [(0x00#8, .nop), (0x01#8, .ldBcNn 0x1234#16), (0x02#8, .ldIndBcA), (0x03#8, .incBc), (0x04#8, .incB),
      (0x05#8, .decB), (0x06#8, .ldBN 0x34#8), (0x07#8, .rlca), (0x08#8, .ldIndNnSp 0x1234#16), (0x09#8, .addHlBc),
      (0x0A#8, .ldAIndBc), (0x0B#8, .decBc), (0x0C#8, .incC), (0x0D#8, .decC), (0x0E#8, .ldCN 0x34#8), (0x0F#8, .rrca)] = true := by decide

theorem test_decode_row_1 :
    decodesAs [(0x10#8, .stop), (0x11#8, .ldDeNn 0x1234#16), (0x12#8, .ldIndDeA), (0x13#8, .incDe), (0x14#8, .incD),
      (0x15#8, .decD), (0x16#8, .ldDN 0x34#8), (0x17#8, .rla), (0x18#8, .jrD 0x34#8), (0x19#8, .addHlDe),
      (0x1A#8, .ldAIndDe), (0x1B#8, .decDe), (0x1C#8, .incE), (0x1D#8, .decE), (0x1E#8, .ldEN 0x34#8), (0x1F#8, .rra)] = true := by decide

theorem test_decode_row_2 :
    decodesAs [(0x20#8, .jrNzD 0x34#8), (0x21#8, .ldHlNn 0x1234#16), (0x22#8, .ldIndHlIncA), (0x23#8, .incHl),
      (0x24#8, .incH), (0x25#8, .decH), (0x26#8, .ldHN 0x34#8), (0x27#8, .daa), (0x28#8, .jrZD 0x34#8),
      (0x29#8, .addHlHl), (0x2A#8, .ldAIndHlInc), (0x2B#8, .decHl), (0x2C#8, .incL), (0x2D#8, .decL),
      (0x2E#8, .ldLN 0x34#8), (0x2F#8, .cpl)] = true := by decide

theorem test_decode_row_3 :
    decodesAs [(0x30#8, .jrNcD 0x34#8), (0x31#8, .ldSpNn 0x1234#16), (0x32#8, .ldIndHlDecA), (0x33#8, .incSp),
      (0x34#8, .incIndHl), (0x35#8, .decIndHl), (0x36#8, .ldIndHlN 0x34#8), (0x37#8, .scf), (0x38#8, .jrCD 0x34#8),
      (0x39#8, .addHlSp), (0x3A#8, .ldAIndHlDec), (0x3B#8, .decSp), (0x3C#8, .incA), (0x3D#8, .decA),
      (0x3E#8, .ldAN 0x34#8), (0x3F#8, .ccf)] = true := by decide

theorem test_decode_row_4 :
    decodesAs [(0x40#8, .ldBB), (0x41#8, .ldBC), (0x42#8, .ldBD), (0x43#8, .ldBE), (0x44#8, .ldBH), (0x45#8, .ldBL),
      (0x46#8, .ldBIndHl), (0x47#8, .ldBA), (0x48#8, .ldCB), (0x49#8, .ldCC), (0x4A#8, .ldCD), (0x4B#8, .ldCE),
      (0x4C#8, .ldCH), (0x4D#8, .ldCL), (0x4E#8, .ldCIndHl), (0x4F#8, .ldCA)] = true := by decide

theorem test_decode_row_5 :
    decodesAs [(0x50#8, .ldDB), (0x51#8, .ldDC), (0x52#8, .ldDD), (0x53#8, .ldDE), (0x54#8, .ldDH), (0x55#8, .ldDL),
      (0x56#8, .ldDIndHl), (0x57#8, .ldDA), (0x58#8, .ldEB), (0x59#8, .ldEC), (0x5A#8, .ldED), (0x5B#8, .ldEE),
      (0x5C#8, .ldEH), (0x5D#8, .ldEL), (0x5E#8, .ldEIndHl), (0x5F#8, .ldEA)] = true := by decide

theorem test_decode_row_6 :
    decodesAs [(0x60#8, .ldHB), (0x61#8, .ldHC), (0x62#8, .ldHD), (0x63#8, .ldHE), (0x64#8, .ldHH), (0x65#8, .ldHL),
      (0x66#8, .ldHIndHl), (0x67#8, .ldHA), (0x68#8, .ldLB), (0x69#8, .ldLC), (0x6A#8, .ldLD), (0x6B#8, .ldLE),
      (0x6C#8, .ldLH), (0x6D#8, .ldLL), (0x6E#8, .ldLIndHl), (0x6F#8, .ldLA)] = true := by decide

theorem test_decode_row_7 :
    decodesAs [(0x70#8, .ldIndHlB), (0x71#8, .ldIndHlC), (0x72#8, .ldIndHlD), (0x73#8, .ldIndHlE), (0x74#8, .ldIndHlH),
      (0x75#8, .ldIndHlL), (0x76#8, .halt), (0x77#8, .ldIndHlA), (0x78#8, .ldAB), (0x79#8, .ldAC), (0x7A#8, .ldAD),
      (0x7B#8, .ldAE), (0x7C#8, .ldAH), (0x7D#8, .ldAL), (0x7E#8, .ldAIndHl), (0x7F#8, .ldAA)] = true := by decide

theorem test_decode_row_8 :
    decodesAs [(0x80#8, .addAB), (0x81#8, .addAC), (0x82#8, .addAD), (0x83#8, .addAE), (0x84#8, .addAH), (0x85#8, .addAL),
      (0x86#8, .addAIndHl), (0x87#8, .addAA), (0x88#8, .adcAB), (0x89#8, .adcAC), (0x8A#8, .adcAD), (0x8B#8, .adcAE),
      (0x8C#8, .adcAH), (0x8D#8, .adcAL), (0x8E#8, .adcAIndHl), (0x8F#8, .adcAA)] = true := by decide

theorem test_decode_row_9 :
    decodesAs [(0x90#8, .subAB), (0x91#8, .subAC), (0x92#8, .subAD), (0x93#8, .subAE), (0x94#8, .subAH), (0x95#8, .subAL),
      (0x96#8, .subAIndHl), (0x97#8, .subAA), (0x98#8, .sbcAB), (0x99#8, .sbcAC), (0x9A#8, .sbcAD), (0x9B#8, .sbcAE),
      (0x9C#8, .sbcAH), (0x9D#8, .sbcAL), (0x9E#8, .sbcAIndHl), (0x9F#8, .sbcAA)] = true := by decide

theorem test_decode_row_A :
    decodesAs [(0xA0#8, .andAB), (0xA1#8, .andAC), (0xA2#8, .andAD), (0xA3#8, .andAE), (0xA4#8, .andAH), (0xA5#8, .andAL),
      (0xA6#8, .andAIndHl), (0xA7#8, .andAA), (0xA8#8, .xorAB), (0xA9#8, .xorAC), (0xAA#8, .xorAD), (0xAB#8, .xorAE),
      (0xAC#8, .xorAH), (0xAD#8, .xorAL), (0xAE#8, .xorAIndHl), (0xAF#8, .xorAA)] = true := by decide

theorem test_decode_row_B :
    decodesAs [(0xB0#8, .orAB), (0xB1#8, .orAC), (0xB2#8, .orAD), (0xB3#8, .orAE), (0xB4#8, .orAH), (0xB5#8, .orAL),
      (0xB6#8, .orAIndHl), (0xB7#8, .orAA), (0xB8#8, .cpAB), (0xB9#8, .cpAC), (0xBA#8, .cpAD), (0xBB#8, .cpAE),
      (0xBC#8, .cpAH), (0xBD#8, .cpAL), (0xBE#8, .cpAIndHl), (0xBF#8, .cpAA)] = true := by decide

theorem test_decode_row_C :
    decodesAs [(0xC0#8, .retNz), (0xC1#8, .popBc), (0xC2#8, .jpNzNn 0x1234#16), (0xC3#8, .jpNn 0x1234#16),
      (0xC4#8, .callNzNn 0x1234#16), (0xC5#8, .pushBc), (0xC6#8, .addAN 0x34#8), (0xC7#8, .rst00), (0xC8#8, .retZ),
      (0xC9#8, .ret), (0xCA#8, .jpZNn 0x1234#16), (0xCC#8, .callZNn 0x1234#16), (0xCD#8, .callNn 0x1234#16),
      (0xCE#8, .adcAN 0x34#8), (0xCF#8, .rst08)] = true := by decide

theorem test_decode_row_D :
    decodesAs [(0xD0#8, .retNc), (0xD1#8, .popDe), (0xD2#8, .jpNcNn 0x1234#16), (0xD3#8, .unrecognisedD3),
      (0xD4#8, .callNcNn 0x1234#16), (0xD5#8, .pushDe), (0xD6#8, .subAN 0x34#8), (0xD7#8, .rst10), (0xD8#8, .retC),
      (0xD9#8, .reti), (0xDA#8, .jpCNn 0x1234#16), (0xDB#8, .unrecognisedDB), (0xDC#8, .callCNn 0x1234#16),
      (0xDD#8, .unrecognisedDD), (0xDE#8, .sbcAN 0x34#8), (0xDF#8, .rst18)] = true := by decide

theorem test_decode_row_E :
    decodesAs [(0xE0#8, .ldhIndNA 0x34#8), (0xE1#8, .popHl), (0xE2#8, .ldhIndCA), (0xE3#8, .unrecognisedE3),
      (0xE4#8, .unrecognisedE4), (0xE5#8, .pushHl), (0xE6#8, .andAN 0x34#8), (0xE7#8, .rst20),
      (0xE8#8, .addSpD 0x34#8), (0xE9#8, .jpHl), (0xEA#8, .ldIndNnA 0x1234#16), (0xEB#8, .unrecognisedEB),
      (0xEC#8, .unrecognisedEC), (0xED#8, .unrecognisedED), (0xEE#8, .xorAN 0x34#8), (0xEF#8, .rst28)] = true := by decide

theorem test_decode_row_F :
    decodesAs [(0xF0#8, .ldhAIndN 0x34#8), (0xF1#8, .popAf), (0xF2#8, .ldhAIndC), (0xF3#8, .di), (0xF4#8, .unrecognisedF4),
      (0xF5#8, .pushAf), (0xF6#8, .orAN 0x34#8), (0xF7#8, .rst30), (0xF8#8, .ldHlSpD 0x34#8), (0xF9#8, .ldSpHl),
      (0xFA#8, .ldAIndNn 0x1234#16), (0xFB#8, .ei), (0xFC#8, .unrecognisedFC), (0xFD#8, .unrecognisedFD),
      (0xFE#8, .cpAN 0x34#8), (0xFF#8, .rst38)] = true := by decide

/-! ### The CB map (30_encoding.md R98), every sub-opcode: the row's first value plus the index of the operand. -/

theorem test_decode_cb_rotates :
    decodesCbRow 0x00#8 .rlcR = true ∧
      decodesCbRow 0x08#8 .rrcR = true ∧
      decodesCbRow 0x10#8 .rlR = true ∧
      decodesCbRow 0x18#8 .rrR = true ∧
      decodesCbRow 0x20#8 .slaR = true ∧
      decodesCbRow 0x28#8 .sraR = true ∧
      decodesCbRow 0x30#8 .swapR = true ∧
      decodesCbRow 0x38#8 .srlR = true := by decide

theorem test_decode_cb_bit :
    decodesCbRow 0x40#8 .bit0 = true ∧
      decodesCbRow 0x48#8 .bit1 = true ∧
      decodesCbRow 0x50#8 .bit2 = true ∧
      decodesCbRow 0x58#8 .bit3 = true ∧
      decodesCbRow 0x60#8 .bit4 = true ∧
      decodesCbRow 0x68#8 .bit5 = true ∧
      decodesCbRow 0x70#8 .bit6 = true ∧
      decodesCbRow 0x78#8 .bit7 = true := by decide

theorem test_decode_cb_res :
    decodesCbRow 0x80#8 .res0 = true ∧
      decodesCbRow 0x88#8 .res1 = true ∧
      decodesCbRow 0x90#8 .res2 = true ∧
      decodesCbRow 0x98#8 .res3 = true ∧
      decodesCbRow 0xA0#8 .res4 = true ∧
      decodesCbRow 0xA8#8 .res5 = true ∧
      decodesCbRow 0xB0#8 .res6 = true ∧
      decodesCbRow 0xB8#8 .res7 = true := by decide

theorem test_decode_cb_set :
    decodesCbRow 0xC0#8 .set0 = true ∧
      decodesCbRow 0xC8#8 .set1 = true ∧
      decodesCbRow 0xD0#8 .set2 = true ∧
      decodesCbRow 0xD8#8 .set3 = true ∧
      decodesCbRow 0xE0#8 .set4 = true ∧
      decodesCbRow 0xE8#8 .set5 = true ∧
      decodesCbRow 0xF0#8 .set6 = true ∧
      decodesCbRow 0xF8#8 .set7 = true := by decide

/-! ### Words written out bit by bit: x, y, z of one word of every family -/

/-- Blocks x = 0 and x = 1. -/
theorem test_decode_bits_x0_x1 :
    decodesAs [(0b00000000#8, .nop), (0b00001000#8, .ldIndNnSp 0x1234#16), (0b00111000#8, .jrCD 0x34#8),
      (0b00100001#8, .ldHlNn 0x1234#16), (0b00111001#8, .addHlSp), (0b00110010#8, .ldIndHlDecA), (0b00011011#8, .decDe),
      (0b00110100#8, .incIndHl), (0b00111101#8, .decA), (0b00110110#8, .ldIndHlN 0x34#8), (0b00100111#8, .daa),
      (0b01110000#8, .ldIndHlB), (0b01000110#8, .ldBIndHl), (0b01110110#8, .halt)] = true := by decide

/-- Blocks x = 2 and x = 3. -/
theorem test_decode_bits_x2_x3 :
    decodesAs [(0b10011110#8, .sbcAIndHl), (0b10101111#8, .xorAA), (0b11011000#8, .retC), (0b11100000#8, .ldhIndNA 0x34#8),
      (0b11110001#8, .popAf), (0b11101001#8, .jpHl), (0b11010010#8, .jpNcNn 0x1234#16), (0b11111010#8, .ldAIndNn 0x1234#16),
      (0b11110011#8, .di), (0b11001100#8, .callZNn 0x1234#16), (0b11110101#8, .pushAf), (0b11001101#8, .callNn 0x1234#16),
      (0b11111110#8, .cpAN 0x34#8), (0b11101111#8, .rst28), (0b11111101#8, .unrecognisedFD)] = true := by decide

/-- 0xCB with 01 111 100: BIT 7,H (the source's anchor), and one word of each other x. -/
theorem test_decode_bits_cb :
    decodeCb 0b01111100#8 = .bit7 .h ∧ decodeCb 0b00110110#8 = .swapR .ind ∧ decodeCb 0b10011110#8 = .res3 .ind ∧
      decodeCb 0b11000111#8 = .set0 .a := by decide

/-- Without `HAS_ABS_A`, 0xEA and 0xFA are refused by name. -/
theorem test_decode_absolute_absent :
    (match decodeWindowWith false 0xEA#8 0x00#8 0xC0#8 with | .ok _ => none | .error e => some e) =
        some (.absoluteLoadAbsent 0xEA#8) ∧
      (match decodeWindowWith false 0xFA#8 0x00#8 0xC0#8 with | .ok _ => none | .error e => some e) =
        some (.absoluteLoadAbsent 0xFA#8) := by decide

/-- A list too short for its opcode is refused by name; what follows the instruction comes back. -/
theorem test_decode_list :
    (match decode [0xCD#8, 0x34#8] with | .ok _ => none | .error e => some e) = some .truncated ∧
      (match decode [0xCD#8, 0x34#8, 0x12#8, 0x76#8] with | .ok p => some p | .error _ => none) =
        some (.callNn 0x1234#16, [0x76#8]) := by decide

/-- The opcode table's numbering: operand bytes the table gives no bits are zero; a CB row has 0xCB as its high byte. -/
theorem test_decode_table_words :
    decodeTableWord 8 0x00 = some .nop ∧ decodeTableWord 8 0x01 = some (.ldBcNn 0x0000#16) ∧
      decodeTableWord 8 0xFE = some (.cpAN 0x00#8) ∧ decodeTableWord 16 0xCB7C = some (.bit7 .h) ∧
      decodeTableWord 16 0xCB00 = some (.rlcR .b) := by decide

/-! ## One step: the vectors of 95_test_vectors.md part 2 (part 1's T1 to T3 are among them) -/

/-- All registers and all memory zero, t = 0. -/
def zero : State := State.reset

/-- The next state of an outcome. -/
def nextOf (o : Host.Outcome State Fault Refusal) : Option State :=
  match o with
  | .next s => some s
  | .fault _ => none
  | .refused _ => none

/-- One `Execute` of a window with b3 = 0. -/
def runs (b0 b1 b2 : Byte) (s : State) : Option State := nextOf (execute b0 b1 b2 0x00#8 s)

/-- Vectors of R220 to R222. -/
theorem test_vectors_nop_stop_ldNnSp :
    runs 0x00 0x00 0x00 { zero with pc := 0x0100 } = some { zero with pc := 0x0101, t := 4 } ∧
    runs 0x00 0x00 0x00 { zero with f := 0xF0, pc := 0xFFFF } = some { zero with f := 0xF0, t := 4 } ∧
    runs 0x08 0x00 0xC1 { zero with sp := 0xFFF8, pc := 0x0200 } =
        some { zero with sp := 0xFFF8, pc := 0x0203, t := 20, mem := [(0xC100, 0xF8), (0xC101, 0xFF)] } ∧
    runs 0x08 0xFF 0xFF { zero with sp := 0x1234, mem := [(0x0000, 0xAA)] } =
        some { zero with sp := 0x1234, pc := 0x0003, t := 20, mem := [(0x0000, 0x12), (0xFFFF, 0x34)] } ∧
    runs 0x10 0x00 0x00 { zero with f := 0xF0, pc := 0x0100 } =
        some { zero with f := 0xF0, pc := 0x0102, t := 4 } := by
  decide

/-- Vectors of R223, R224. -/
theorem test_vectors_jr :
    runs 0x18 0x05 0x00 { zero with pc := 0x0100 } = some { zero with pc := 0x0107, t := 12 } ∧
    runs 0x18 0xFE 0x00 { zero with pc := 0x0100 } = some { zero with pc := 0x0100, t := 12 } ∧
    runs 0x18 0x80 0x00 { zero with pc := 0x0010 } = some { zero with pc := 0xFF92, t := 12 } ∧
    runs 0x18 0x7F 0x00 { zero with pc := 0xFFF0 } = some { zero with pc := 0x0071, t := 12 } ∧
    runs 0x20 0xFB 0x00 { zero with pc := 0x0105 } = some { zero with pc := 0x0102, t := 12 } ∧
    runs 0x20 0xFB 0x00 { zero with f := 0x80, pc := 0x0105 } =
        some { zero with f := 0x80, pc := 0x0107, t := 8 } ∧
    runs 0x28 0x02 0x00 { zero with f := 0x80, pc := 0x0105 } =
        some { zero with f := 0x80, pc := 0x0109, t := 12 } ∧
    runs 0x28 0x02 0x00 { zero with f := 0x70, pc := 0x0105 } =
        some { zero with f := 0x70, pc := 0x0107, t := 8 } ∧
    runs 0x30 0x10 0x00 { zero with f := 0xE0, pc := 0x0200 } =
        some { zero with f := 0xE0, pc := 0x0212, t := 12 } ∧
    runs 0x30 0x10 0x00 { zero with f := 0x10, pc := 0x0200 } =
        some { zero with f := 0x10, pc := 0x0202, t := 8 } ∧
    runs 0x38 0xF0 0x00 { zero with f := 0x10, pc := 0x0200 } =
        some { zero with f := 0x10, pc := 0x01F2, t := 12 } ∧
    runs 0x38 0xF0 0x00 { zero with pc := 0x0200 } = some { zero with pc := 0x0202, t := 8 } := by
  decide

/-- Vectors of R225. -/
theorem test_vectors_ldRpNn :
    runs 0x01 0x34 0x12 zero = some { zero with b := 0x12, c := 0x34, pc := 0x0003, t := 12 } ∧
    runs 0x11 0xCD 0xAB zero = some { zero with d := 0xAB, e := 0xCD, pc := 0x0003, t := 12 } ∧
    runs 0x21 0x00 0xC0 { zero with f := 0xF0 } = some { zero with f := 0xF0, h := 0xC0, pc := 0x0003, t := 12 } ∧
    runs 0x31 0xFE 0xFF zero = some { zero with sp := 0xFFFE, pc := 0x0003, t := 12 } := by
  decide

/-- Vectors of R226. -/
theorem test_vectors_addHl :
    runs 0x09 0x00 0x00 { zero with f := 0x80, c := 0x01, h := 0x0F, l := 0xFF } =
        some { zero with f := 0xA0, c := 0x01, h := 0x10, pc := 0x0001, t := 8 } ∧
    runs 0x19 0x00 0x00 { zero with e := 0x01, h := 0xFF, l := 0xFF } =
        some { zero with f := 0x30, e := 0x01, pc := 0x0001, t := 8 } ∧
    runs 0x29 0x00 0x00 { zero with f := 0xC0, h := 0x80 } = some { zero with f := 0x90, pc := 0x0001, t := 8 } ∧
    runs 0x39 0x00 0x00 { zero with f := 0x70, h := 0x12, l := 0x34, sp := 0x1111 } =
        some { zero with h := 0x23, l := 0x45, sp := 0x1111, pc := 0x0001, t := 8 } := by
  decide

/-- Vectors of R227 to R234. -/
theorem test_vectors_indirect_loads_and_stores :
    runs 0x02 0x00 0x00 { zero with a := 0x5A, b := 0xC0, c := 0x02 } =
        some { zero with a := 0x5A, b := 0xC0, c := 0x02, pc := 0x0001, t := 8, mem := [(0xC002, 0x5A)] } ∧
    runs 0x12 0x00 0x00 { zero with a := 0x5A, d := 0xC0, e := 0x03 } =
        some { zero with a := 0x5A, d := 0xC0, e := 0x03, pc := 0x0001, t := 8, mem := [(0xC003, 0x5A)] } ∧
    runs 0x22 0x00 0x00 { zero with a := 0x5A, h := 0xFF, l := 0xFF } =
        some { zero with a := 0x5A, pc := 0x0001, t := 8, mem := [(0xFFFF, 0x5A)] } ∧
    runs 0x32 0x00 0x00 { zero with a := 0x5A } =
        some { zero with a := 0x5A, h := 0xFF, l := 0xFF, pc := 0x0001, t := 8, mem := [(0x0000, 0x5A)] } ∧
    runs 0x0A 0x00 0x00 { zero with b := 0xC0, c := 0x02, mem := [(0xC002, 0x77)] } =
        some { zero with a := 0x77, b := 0xC0, c := 0x02, pc := 0x0001, t := 8, mem := [(0xC002, 0x77)] } ∧
    runs 0x1A 0x00 0x00 { zero with d := 0xC0, e := 0x03, mem := [(0xC003, 0x78)] } =
        some { zero with a := 0x78, d := 0xC0, e := 0x03, pc := 0x0001, t := 8, mem := [(0xC003, 0x78)] } ∧
    runs 0x2A 0x00 0x00 { zero with h := 0xC0, l := 0xFF, mem := [(0xC0FF, 0x79)] } =
        some { zero with a := 0x79, h := 0xC1, pc := 0x0001, t := 8, mem := [(0xC0FF, 0x79)] } ∧
    runs 0x3A 0x00 0x00 { zero with h := 0xC1, mem := [(0xC100, 0x7A)] } =
        some { zero with a := 0x7A, h := 0xC0, l := 0xFF, pc := 0x0001, t := 8, mem := [(0xC100, 0x7A)] } := by
  decide

/-- Vectors of R235, R236. -/
theorem test_vectors_incRp_decRp :
    runs 0x03 0x00 0x00 { zero with f := 0xF0, b := 0xFF, c := 0xFF } =
        some { zero with f := 0xF0, pc := 0x0001, t := 8 } ∧
    runs 0x23 0x00 0x00 { zero with l := 0xFF } = some { zero with h := 0x01, pc := 0x0001, t := 8 } ∧
    runs 0x33 0x00 0x00 { zero with sp := 0xFFFF } = some { zero with pc := 0x0001, t := 8 } ∧
    runs 0x0B 0x00 0x00 { zero with f := 0xF0 } =
        some { zero with f := 0xF0, b := 0xFF, c := 0xFF, pc := 0x0001, t := 8 } ∧
    runs 0x1B 0x00 0x00 { zero with d := 0x01 } = some { zero with e := 0xFF, pc := 0x0001, t := 8 } ∧
    runs 0x3B 0x00 0x00 zero = some { zero with sp := 0xFFFF, pc := 0x0001, t := 8 } := by
  decide

/-- Vectors of R237, R238. -/
theorem test_vectors_incR_decR :
    runs 0x04 0x00 0x00 { zero with f := 0x10, b := 0xFF } = some { zero with f := 0xB0, pc := 0x0001, t := 4 } ∧
    runs 0x0C 0x00 0x00 { zero with c := 0x0F } = some { zero with f := 0x20, c := 0x10, pc := 0x0001, t := 4 } ∧
    runs 0x3C 0x00 0x00 { zero with a := 0x7F, f := 0xC0 } =
        some { zero with a := 0x80, f := 0x20, pc := 0x0001, t := 4 } ∧
    runs 0x34 0x00 0x00 { zero with h := 0xC0, mem := [(0xC000, 0xFF)] } =
        some { zero with f := 0xA0, h := 0xC0, pc := 0x0001, t := 12 } ∧
    runs 0x05 0x00 0x00 { zero with f := 0x10, b := 0x01 } = some { zero with f := 0xD0, pc := 0x0001, t := 4 } ∧
    runs 0x0D 0x00 0x00 zero = some { zero with f := 0x60, c := 0xFF, pc := 0x0001, t := 4 } ∧
    runs 0x3D 0x00 0x00 { zero with a := 0x10, f := 0x80 } =
        some { zero with a := 0x0F, f := 0x60, pc := 0x0001, t := 4 } ∧
    runs 0x35 0x00 0x00 { zero with f := 0x10, h := 0xC0 } =
        some { zero with f := 0x70, h := 0xC0, pc := 0x0001, t := 12, mem := [(0xC000, 0xFF)] } := by
  decide

/-- Vectors of R239. -/
theorem test_vectors_ldRN :
    runs 0x06 0x42 0x00 { zero with f := 0xF0 } = some { zero with f := 0xF0, b := 0x42, pc := 0x0002, t := 8 } ∧
    runs 0x3E 0xFF 0x00 zero = some { zero with a := 0xFF, pc := 0x0002, t := 8 } ∧
    runs 0x36 0x99 0x00 { zero with h := 0xC0 } =
        some { zero with h := 0xC0, pc := 0x0002, t := 12, mem := [(0xC000, 0x99)] } := by
  decide

/-- Vectors of R240 to R243. -/
theorem test_vectors_accumulator_rotates :
    runs 0x07 0x00 0x00 { zero with a := 0x80, f := 0xE0 } =
        some { zero with a := 0x01, f := 0x10, pc := 0x0001, t := 4 } ∧
    runs 0x07 0x00 0x00 { zero with f := 0xF0 } = some { zero with pc := 0x0001, t := 4 } ∧
    runs 0x0F 0x00 0x00 { zero with a := 0x01 } = some { zero with a := 0x80, f := 0x10, pc := 0x0001, t := 4 } ∧
    runs 0x17 0x00 0x00 { zero with a := 0x80 } = some { zero with f := 0x10, pc := 0x0001, t := 4 } ∧
    runs 0x17 0x00 0x00 { zero with f := 0x10 } = some { zero with a := 0x01, pc := 0x0001, t := 4 } ∧
    runs 0x1F 0x00 0x00 { zero with a := 0x01 } = some { zero with f := 0x10, pc := 0x0001, t := 4 } ∧
    runs 0x1F 0x00 0x00 { zero with f := 0x10 } = some { zero with a := 0x80, pc := 0x0001, t := 4 } := by
  decide

/-- Vectors of R244. -/
theorem test_vectors_daa :
    runs 0x27 0x00 0x00 { zero with a := 0x7D } = some { zero with a := 0x83, pc := 0x0001, t := 4 } ∧
    runs 0x27 0x00 0x00 { zero with a := 0x9A } = some { zero with f := 0x90, pc := 0x0001, t := 4 } ∧
    runs 0x27 0x00 0x00 { zero with a := 0xA0 } = some { zero with f := 0x90, pc := 0x0001, t := 4 } ∧
    runs 0x27 0x00 0x00 { zero with f := 0x30 } = some { zero with a := 0x66, f := 0x10, pc := 0x0001, t := 4 } ∧
    runs 0x27 0x00 0x00 { zero with a := 0x0F, f := 0x60 } =
        some { zero with a := 0x09, f := 0x40, pc := 0x0001, t := 4 } ∧
    runs 0x27 0x00 0x00 { zero with a := 0xFF, f := 0x70 } =
        some { zero with a := 0x99, f := 0x50, pc := 0x0001, t := 4 } ∧
    runs 0x27 0x00 0x00 zero = some { zero with f := 0x80, pc := 0x0001, t := 4 } := by
  decide

/-- Vectors of R245 to R247. -/
theorem test_vectors_cpl_scf_ccf :
    runs 0x2F 0x00 0x00 { zero with a := 0x35, f := 0x90 } =
        some { zero with a := 0xCA, f := 0xF0, pc := 0x0001, t := 4 } ∧
    runs 0x2F 0x00 0x00 { zero with a := 0xFF } = some { zero with f := 0x60, pc := 0x0001, t := 4 } ∧
    runs 0x37 0x00 0x00 { zero with f := 0xE0 } = some { zero with f := 0x90, pc := 0x0001, t := 4 } ∧
    runs 0x37 0x00 0x00 zero = some { zero with f := 0x10, pc := 0x0001, t := 4 } ∧
    runs 0x3F 0x00 0x00 { zero with f := 0xF0 } = some { zero with f := 0x80, pc := 0x0001, t := 4 } ∧
    runs 0x3F 0x00 0x00 { zero with f := 0x80 } = some { zero with f := 0x90, pc := 0x0001, t := 4 } := by
  decide

/-- Vectors of R270. -/
theorem test_vectors_ldRR :
    runs 0x41 0x00 0x00 { zero with f := 0xF0, c := 0x5A } =
        some { zero with f := 0xF0, b := 0x5A, c := 0x5A, pc := 0x0001, t := 4 } ∧
    runs 0x7F 0x00 0x00 { zero with a := 0x12 } = some { zero with a := 0x12, pc := 0x0001, t := 4 } ∧
    runs 0x46 0x00 0x00 { zero with h := 0xC0, mem := [(0xC000, 0x99)] } =
        some { zero with b := 0x99, h := 0xC0, pc := 0x0001, t := 8, mem := [(0xC000, 0x99)] } ∧
    runs 0x66 0x00 0x00 { zero with h := 0xC0, mem := [(0xC000, 0x12)] } =
        some { zero with h := 0x12, pc := 0x0001, t := 8, mem := [(0xC000, 0x12)] } ∧
    runs 0x6E 0x00 0x00 { zero with h := 0xC0, mem := [(0xC000, 0x34)] } =
        some { zero with h := 0xC0, l := 0x34, pc := 0x0001, t := 8, mem := [(0xC000, 0x34)] } ∧
    runs 0x70 0x00 0x00 { zero with b := 0x77, h := 0xC0, l := 0x01 } =
        some { zero with b := 0x77, h := 0xC0, l := 0x01, pc := 0x0001, t := 8, mem := [(0xC001, 0x77)] } ∧
    runs 0x74 0x00 0x00 { zero with h := 0xC0, l := 0x01 } =
        some { zero with h := 0xC0, l := 0x01, pc := 0x0001, t := 8, mem := [(0xC001, 0xC0)] } ∧
    runs 0x75 0x00 0x00 { zero with h := 0xC0, l := 0x01 } =
        some { zero with h := 0xC0, l := 0x01, pc := 0x0001, t := 8, mem := [(0xC001, 0x01)] } ∧
    runs 0x77 0x00 0x00 { zero with a := 0xAB, h := 0xFF, l := 0xFF, pc := 0xFFFF } =
        some { zero with a := 0xAB, h := 0xFF, l := 0xFF, t := 8, mem := [(0xFFFF, 0xAB)] } := by
  decide

/-- Vectors of R271. -/
theorem test_vectors_halt :
    runs 0x76 0x00 0x00 { zero with a := 0x01, f := 0xF0, h := 0xC0, pc := 0x0150, mem := [(0xC000, 0x55)] } =
        some { zero with a := 0x01, f := 0xF0, h := 0xC0, pc := 0x0151, t := 8, mem := [(0xC000, 0x55)] } := by
  decide

/-- Vectors of R280, R281. -/
theorem test_vectors_add_adc :
    runs 0x80 0x00 0x00 { zero with a := 0x3A, b := 0xC6 } =
        some { zero with f := 0xB0, b := 0xC6, pc := 0x0001, t := 4 } ∧
    runs 0x87 0x00 0x00 { zero with a := 0x80 } = some { zero with f := 0x90, pc := 0x0001, t := 4 } ∧
    runs 0x86 0x00 0x00 { zero with a := 0x0F, h := 0xC0, l := 0x10, mem := [(0xC010, 0x01)] } =
        some { zero with a := 0x10, f := 0x20, h := 0xC0, l := 0x10, pc := 0x0001, t := 8, mem := [(0xC010, 0x01)] } ∧
    runs 0x85 0x00 0x00 { zero with a := 0xFF, f := 0xF0 } = some { zero with a := 0xFF, pc := 0x0001, t := 4 } ∧
    runs 0x88 0x00 0x00 { zero with a := 0xFF, f := 0x10 } = some { zero with f := 0xB0, pc := 0x0001, t := 4 } ∧
    runs 0x89 0x00 0x00 { zero with a := 0x0F, f := 0x10 } =
        some { zero with a := 0x10, f := 0x20, pc := 0x0001, t := 4 } ∧
    runs 0x8F 0x00 0x00 { zero with a := 0x80, f := 0x10 } =
        some { zero with a := 0x01, f := 0x10, pc := 0x0001, t := 4 } ∧
    runs 0x8A 0x00 0x00 { zero with a := 0x01, f := 0xE0, d := 0x01 } =
        some { zero with a := 0x02, d := 0x01, pc := 0x0001, t := 4 } := by
  decide

/-- Vectors of R282, R283. -/
theorem test_vectors_sub_sbc :
    runs 0x90 0x00 0x00 { zero with b := 0x01 } =
        some { zero with a := 0xFF, f := 0x70, b := 0x01, pc := 0x0001, t := 4 } ∧
    runs 0x97 0x00 0x00 { zero with a := 0x5A, f := 0x10 } = some { zero with f := 0xC0, pc := 0x0001, t := 4 } ∧
    runs 0x93 0x00 0x00 { zero with a := 0x10, e := 0x01 } =
        some { zero with a := 0x0F, f := 0x60, e := 0x01, pc := 0x0001, t := 4 } ∧
    runs 0x98 0x00 0x00 { zero with f := 0x10 } = some { zero with a := 0xFF, f := 0x70, pc := 0x0001, t := 4 } ∧
    runs 0x99 0x00 0x00 { zero with a := 0x10, f := 0x10, c := 0x0F } =
        some { zero with f := 0xE0, c := 0x0F, pc := 0x0001, t := 4 } ∧
    runs 0x9F 0x00 0x00 { zero with a := 0x77, f := 0x10 } =
        some { zero with a := 0xFF, f := 0x70, pc := 0x0001, t := 4 } ∧
    runs 0x9F 0x00 0x00 { zero with a := 0x77 } = some { zero with f := 0xC0, pc := 0x0001, t := 4 } ∧
    runs 0x9C 0x00 0x00 { zero with f := 0x10, h := 0xFF } =
        some { zero with f := 0xF0, h := 0xFF, pc := 0x0001, t := 4 } := by
  decide

/-- Vectors of R284 to R287. -/
theorem test_vectors_and_xor_or_cp :
    runs 0xA0 0x00 0x00 { zero with a := 0xF0, f := 0x50, b := 0x0F } =
        some { zero with f := 0xA0, b := 0x0F, pc := 0x0001, t := 4 } ∧
    runs 0xA7 0x00 0x00 { zero with a := 0x5A, f := 0x10 } =
        some { zero with a := 0x5A, f := 0x20, pc := 0x0001, t := 4 } ∧
    runs 0xAF 0x00 0x00 { zero with a := 0x5A, f := 0xF0 } = some { zero with f := 0x80, pc := 0x0001, t := 4 } ∧
    runs 0xA8 0x00 0x00 { zero with a := 0xFF, f := 0x10, b := 0x0F } =
        some { zero with a := 0xF0, b := 0x0F, pc := 0x0001, t := 4 } ∧
    runs 0xB0 0x00 0x00 { zero with f := 0x70 } = some { zero with f := 0x80, pc := 0x0001, t := 4 } ∧
    runs 0xB6 0x00 0x00 { zero with a := 0x01, f := 0x10, h := 0xFF, l := 0xFF, mem := [(0xFFFF, 0x80)] } =
        some { zero with a := 0x81, h := 0xFF, l := 0xFF, pc := 0x0001, t := 8, mem := [(0xFFFF, 0x80)] } ∧
    runs 0xB8 0x00 0x00 { zero with a := 0x3C, b := 0x3C } =
        some { zero with a := 0x3C, f := 0xC0, b := 0x3C, pc := 0x0001, t := 4 } ∧
    runs 0xB9 0x00 0x00 { zero with a := 0x3C, c := 0x40 } =
        some { zero with a := 0x3C, f := 0x50, c := 0x40, pc := 0x0001, t := 4 } ∧
    runs 0xBA 0x00 0x00 { zero with a := 0x3C, d := 0x2F } =
        some { zero with a := 0x3C, f := 0x60, d := 0x2F, pc := 0x0001, t := 4 } ∧
    runs 0xBF 0x00 0x00 { zero with f := 0x10 } = some { zero with f := 0xC0, pc := 0x0001, t := 4 } := by
  decide

/-- Vectors of R300. -/
theorem test_vectors_retCc :
    runs 0xC0 0x00 0x00 { zero with sp := 0xFFFC, pc := 0x0300, mem := [(0xFFFC, 0x34), (0xFFFD, 0x12)] } =
        some { zero with sp := 0xFFFE, pc := 0x1234, t := 20, mem := [(0xFFFC, 0x34), (0xFFFD, 0x12)] } ∧
    runs 0xC0 0x00 0x00 { zero with f := 0x80, sp := 0xFFFC, pc := 0x0300, mem := [(0xFFFC, 0x34), (0xFFFD, 0x12)] } =
        some { zero with f := 0x80, sp := 0xFFFC, pc := 0x0301, t := 8, mem := [(0xFFFC, 0x34), (0xFFFD, 0x12)] } ∧
    runs 0xC8 0x00 0x00 { zero with f := 0x80, sp := 0xFFFC, pc := 0x0300, mem := [(0xFFFC, 0x34), (0xFFFD, 0x12)] } =
        some { zero with f := 0x80, sp := 0xFFFE, pc := 0x1234, t := 20, mem := [(0xFFFC, 0x34), (0xFFFD, 0x12)] } ∧
    runs 0xC8 0x00 0x00 { zero with f := 0x70, sp := 0xFFFC, pc := 0x0300, mem := [(0xFFFC, 0x34), (0xFFFD, 0x12)] } =
        some { zero with f := 0x70, sp := 0xFFFC, pc := 0x0301, t := 8, mem := [(0xFFFC, 0x34), (0xFFFD, 0x12)] } ∧
    runs 0xD0 0x00 0x00 { zero with f := 0xE0, sp := 0xFFFC, pc := 0x0300, mem := [(0xFFFC, 0x34), (0xFFFD, 0x12)] } =
        some { zero with f := 0xE0, sp := 0xFFFE, pc := 0x1234, t := 20, mem := [(0xFFFC, 0x34), (0xFFFD, 0x12)] } ∧
    runs 0xD0 0x00 0x00 { zero with f := 0x10, sp := 0xFFFC, pc := 0x0300, mem := [(0xFFFC, 0x34), (0xFFFD, 0x12)] } =
        some { zero with f := 0x10, sp := 0xFFFC, pc := 0x0301, t := 8, mem := [(0xFFFC, 0x34), (0xFFFD, 0x12)] } ∧
    runs 0xD8 0x00 0x00 { zero with f := 0x10, sp := 0xFFFC, pc := 0x0300, mem := [(0xFFFC, 0x34), (0xFFFD, 0x12)] } =
        some { zero with f := 0x10, sp := 0xFFFE, pc := 0x1234, t := 20, mem := [(0xFFFC, 0x34), (0xFFFD, 0x12)] } ∧
    runs 0xD8 0x00 0x00 { zero with f := 0xE0, sp := 0xFFFC, pc := 0x0300, mem := [(0xFFFC, 0x34), (0xFFFD, 0x12)] } =
        some { zero with f := 0xE0, sp := 0xFFFC, pc := 0x0301, t := 8, mem := [(0xFFFC, 0x34), (0xFFFD, 0x12)] } := by
  decide

/-- Vectors of R301, R303, R316, R318. -/
theorem test_vectors_ldh :
    runs 0xE0 0x80 0x00 { zero with a := 0x5A, pc := 0x0100 } =
        some { zero with a := 0x5A, pc := 0x0102, t := 12, mem := [(0xFF80, 0x5A)] } ∧
    runs 0xE0 0xFF 0x00 { zero with a := 0x1F } =
        some { zero with a := 0x1F, pc := 0x0002, t := 12, mem := [(0xFFFF, 0x1F)] } ∧
    runs 0xE0 0x44 0x00 { zero with a := 0x90 } =
        some { zero with a := 0x90, pc := 0x0002, t := 12, mem := [(0xFF44, 0x90)] } ∧
    runs 0xF0 0x80 0x00 { zero with f := 0xF0, mem := [(0xFF80, 0x77)] } =
        some { zero with a := 0x77, f := 0xF0, pc := 0x0002, t := 12, mem := [(0xFF80, 0x77)] } ∧
    runs 0xF0 0x00 0x00 { zero with a := 0x11, mem := [(0xFF00, 0xCF)] } =
        some { zero with a := 0xCF, pc := 0x0002, t := 12, mem := [(0xFF00, 0xCF)] } ∧
    runs 0xE2 0x00 0x00 { zero with a := 0x5A, c := 0x80 } =
        some { zero with a := 0x5A, c := 0x80, pc := 0x0001, t := 8, mem := [(0xFF80, 0x5A)] } ∧
    runs 0xF2 0x00 0x00 { zero with c := 0x80, mem := [(0xFF80, 0x77)] } =
        some { zero with a := 0x77, c := 0x80, pc := 0x0001, t := 8, mem := [(0xFF80, 0x77)] } := by
  decide

/-- Vectors of R302, R304. -/
theorem test_vectors_addSp_ldHlSp :
    runs 0xE8 0x02 0x00 { zero with f := 0xF0, sp := 0xFFF8 } =
        some { zero with sp := 0xFFFA, pc := 0x0002, t := 16 } ∧
    runs 0xE8 0x08 0x00 { zero with sp := 0xFFF8 } = some { zero with f := 0x30, pc := 0x0002, t := 16 } ∧
    runs 0xE8 0xFF 0x00 { zero with sp := 0x0001 } = some { zero with f := 0x30, pc := 0x0002, t := 16 } ∧
    runs 0xE8 0xFF 0x00 { zero with f := 0xF0 } = some { zero with sp := 0xFFFF, pc := 0x0002, t := 16 } ∧
    runs 0xE8 0x80 0x00 { zero with sp := 0x0080 } = some { zero with f := 0x10, pc := 0x0002, t := 16 } ∧
    runs 0xF8 0x02 0x00 { zero with f := 0xF0, sp := 0xFFF8 } =
        some { zero with h := 0xFF, l := 0xFA, sp := 0xFFF8, pc := 0x0002, t := 12 } ∧
    runs 0xF8 0xFE 0x00 { zero with h := 0x11, l := 0x22, sp := 0xD000 } =
        some { zero with h := 0xCF, l := 0xFE, sp := 0xD000, pc := 0x0002, t := 12 } ∧
    runs 0xF8 0x01 0x00 { zero with sp := 0xFFFF } =
        some { zero with f := 0x30, sp := 0xFFFF, pc := 0x0002, t := 12 } := by
  decide

/-- Vectors of R305. -/
theorem test_vectors_pop :
    runs 0xC1 0x00 0x00 { zero with sp := 0xFFFC, mem := [(0xFFFC, 0x34), (0xFFFD, 0x12)] } =
        some { zero with b := 0x12, c := 0x34, sp := 0xFFFE, pc := 0x0001, t := 12, mem := [(0xFFFC, 0x34), (0xFFFD, 0x12)] } ∧
    runs 0xD1 0x00 0x00 { zero with sp := 0xFFFC, mem := [(0xFFFC, 0x34), (0xFFFD, 0x12)] } =
        some { zero with d := 0x12, e := 0x34, sp := 0xFFFE, pc := 0x0001, t := 12, mem := [(0xFFFC, 0x34), (0xFFFD, 0x12)] } ∧
    runs 0xE1 0x00 0x00 { zero with sp := 0xFFFC, mem := [(0xFFFC, 0x34), (0xFFFD, 0x12)] } =
        some { zero with h := 0x12, l := 0x34, sp := 0xFFFE, pc := 0x0001, t := 12, mem := [(0xFFFC, 0x34), (0xFFFD, 0x12)] } ∧
    runs 0xF1 0x00 0x00 { zero with sp := 0xFFFC, mem := [(0xFFFC, 0xFF), (0xFFFD, 0x12)] } =
        some { zero with a := 0x12, f := 0xF0, sp := 0xFFFE, pc := 0x0001, t := 12, mem := [(0xFFFC, 0xFF), (0xFFFD, 0x12)] } ∧
    runs 0xF1 0x00 0x00 { zero with f := 0xF0, sp := 0xFFFC, mem := [(0xFFFC, 0x0F)] } =
        some { zero with sp := 0xFFFE, pc := 0x0001, t := 12, mem := [(0xFFFC, 0x0F)] } ∧
    runs 0xC1 0x00 0x00 { zero with sp := 0xFFFF, mem := [(0x0000, 0x12), (0xFFFF, 0x34)] } =
        some { zero with b := 0x12, c := 0x34, sp := 0x0001, pc := 0x0001, t := 12, mem := [(0x0000, 0x12), (0xFFFF, 0x34)] } ∧
    runs 0xC1 0x00 0x00 { zero with sp := 0xFFFE, mem := [(0xFFFE, 0x34), (0xFFFF, 0x12)] } =
        some { zero with b := 0x12, c := 0x34, pc := 0x0001, t := 12, mem := [(0xFFFE, 0x34), (0xFFFF, 0x12)] } := by
  decide

/-- Vectors of R306 to R309. -/
theorem test_vectors_ret_reti_jpHl_ldSpHl :
    runs 0xC9 0x00 0x00 { zero with f := 0xF0, sp := 0xFFFC, pc := 0x0300, mem := [(0xFFFC, 0x34), (0xFFFD, 0x12)] } =
        some { zero with f := 0xF0, sp := 0xFFFE, pc := 0x1234, t := 16, mem := [(0xFFFC, 0x34), (0xFFFD, 0x12)] } ∧
    runs 0xD9 0x00 0x00 { zero with f := 0xF0, sp := 0xFFFC, pc := 0x0300, mem := [(0xFFFC, 0x34), (0xFFFD, 0x12)] } =
        some { zero with f := 0xF0, sp := 0xFFFE, pc := 0x1234, t := 16, mem := [(0xFFFC, 0x34), (0xFFFD, 0x12)] } ∧
    runs 0xE9 0x00 0x00 { zero with h := 0xC0, pc := 0x0100, mem := [(0xC000, 0x34), (0xC001, 0x12)] } =
        some { zero with h := 0xC0, pc := 0xC000, t := 4, mem := [(0xC000, 0x34), (0xC001, 0x12)] } ∧
    runs 0xF9 0x00 0x00 { zero with f := 0xF0, h := 0xD0, sp := 0x1234 } =
        some { zero with f := 0xF0, h := 0xD0, sp := 0xD000, pc := 0x0001, t := 8 } := by
  decide

/-- Vectors of R310, R311. -/
theorem test_vectors_jp :
    runs 0xC2 0x00 0x80 { zero with pc := 0x0100 } = some { zero with pc := 0x8000, t := 16 } ∧
    runs 0xC2 0x00 0x80 { zero with f := 0x80, pc := 0x0100 } =
        some { zero with f := 0x80, pc := 0x0103, t := 12 } ∧
    runs 0xCA 0x00 0x80 { zero with f := 0x80, pc := 0x0100 } =
        some { zero with f := 0x80, pc := 0x8000, t := 16 } ∧
    runs 0xCA 0x00 0x80 { zero with pc := 0x0100 } = some { zero with pc := 0x0103, t := 12 } ∧
    runs 0xD2 0x00 0x80 { zero with pc := 0x0100 } = some { zero with pc := 0x8000, t := 16 } ∧
    runs 0xD2 0x00 0x80 { zero with f := 0x10, pc := 0x0100 } =
        some { zero with f := 0x10, pc := 0x0103, t := 12 } ∧
    runs 0xDA 0x00 0x80 { zero with f := 0x10, pc := 0x0100 } =
        some { zero with f := 0x10, pc := 0x8000, t := 16 } ∧
    runs 0xDA 0x00 0x80 { zero with pc := 0x0100 } = some { zero with pc := 0x0103, t := 12 } ∧
    runs 0xC3 0x50 0x01 { zero with f := 0xF0, pc := 0x0100 } =
        some { zero with f := 0xF0, pc := 0x0150, t := 16 } := by
  decide

/-- Vectors of R312, R313. -/
theorem test_vectors_di_ei :
    runs 0xF3 0x00 0x00 { zero with f := 0xF0, pc := 0x0100 } =
        some { zero with f := 0xF0, pc := 0x0101, t := 4 } ∧
    runs 0xFB 0x00 0x00 { zero with f := 0xF0, pc := 0x0100 } =
        some { zero with f := 0xF0, pc := 0x0101, t := 4 } := by
  decide

/-- Vectors of R314, R320. -/
theorem test_vectors_call :
    runs 0xC4 0x00 0x20 { zero with sp := 0xFFFE, pc := 0x0100 } =
        some { zero with sp := 0xFFFC, pc := 0x2000, t := 24, mem := [(0xFFFC, 0x03), (0xFFFD, 0x01)] } ∧
    runs 0xC4 0x00 0x20 { zero with f := 0x80, sp := 0xFFFE, pc := 0x0100 } =
        some { zero with f := 0x80, sp := 0xFFFE, pc := 0x0103, t := 12 } ∧
    runs 0xCC 0x00 0x20 { zero with f := 0x80, sp := 0xFFFE, pc := 0x0100 } =
        some { zero with f := 0x80, sp := 0xFFFC, pc := 0x2000, t := 24, mem := [(0xFFFC, 0x03), (0xFFFD, 0x01)] } ∧
    runs 0xCC 0x00 0x20 { zero with sp := 0xFFFE, pc := 0x0100 } =
        some { zero with sp := 0xFFFE, pc := 0x0103, t := 12 } ∧
    runs 0xD4 0x00 0x20 { zero with sp := 0xFFFE, pc := 0x0100 } =
        some { zero with sp := 0xFFFC, pc := 0x2000, t := 24, mem := [(0xFFFC, 0x03), (0xFFFD, 0x01)] } ∧
    runs 0xD4 0x00 0x20 { zero with f := 0x10, sp := 0xFFFE, pc := 0x0100 } =
        some { zero with f := 0x10, sp := 0xFFFE, pc := 0x0103, t := 12 } ∧
    runs 0xDC 0x00 0x20 { zero with f := 0x10, sp := 0xFFFE, pc := 0x0100 } =
        some { zero with f := 0x10, sp := 0xFFFC, pc := 0x2000, t := 24, mem := [(0xFFFC, 0x03), (0xFFFD, 0x01)] } ∧
    runs 0xDC 0x00 0x20 { zero with sp := 0xFFFE, pc := 0x0100 } =
        some { zero with sp := 0xFFFE, pc := 0x0103, t := 12 } ∧
    runs 0xCD 0x00 0x20 { zero with f := 0xF0, sp := 0xFFFE, pc := 0x0100 } =
        some { zero with f := 0xF0, sp := 0xFFFC, pc := 0x2000, t := 24, mem := [(0xFFFC, 0x03), (0xFFFD, 0x01)] } ∧
    runs 0xCD 0x34 0x12 { zero with sp := 0xFFFE, pc := 0xFFFE } =
        some { zero with sp := 0xFFFC, pc := 0x1234, t := 24, mem := [(0xFFFC, 0x01)] } := by
  decide

/-- Vectors of R315. -/
theorem test_vectors_push :
    runs 0xC5 0x00 0x00 { zero with b := 0x12, c := 0x34, sp := 0xFFFE } =
        some { zero with b := 0x12, c := 0x34, sp := 0xFFFC, pc := 0x0001, t := 16, mem := [(0xFFFC, 0x34), (0xFFFD, 0x12)] } ∧
    runs 0xD5 0x00 0x00 { zero with d := 0x12, e := 0x34, sp := 0xFFFE } =
        some { zero with d := 0x12, e := 0x34, sp := 0xFFFC, pc := 0x0001, t := 16, mem := [(0xFFFC, 0x34), (0xFFFD, 0x12)] } ∧
    runs 0xE5 0x00 0x00 { zero with h := 0x12, l := 0x34, sp := 0xFFFE } =
        some { zero with h := 0x12, l := 0x34, sp := 0xFFFC, pc := 0x0001, t := 16, mem := [(0xFFFC, 0x34), (0xFFFD, 0x12)] } ∧
    runs 0xF5 0x00 0x00 { zero with a := 0x12, f := 0xB0, sp := 0xFFFE } =
        some { zero with a := 0x12, f := 0xB0, sp := 0xFFFC, pc := 0x0001, t := 16, mem := [(0xFFFC, 0xB0), (0xFFFD, 0x12)] } ∧
    runs 0xF5 0x00 0x00 { zero with a := 0x12, f := 0xBF, sp := 0xFFFE } =
        some { zero with a := 0x12, f := 0xBF, sp := 0xFFFC, pc := 0x0001, t := 16, mem := [(0xFFFC, 0xBF), (0xFFFD, 0x12)] } ∧
    runs 0xC5 0x00 0x00 { zero with b := 0x12, c := 0x34, sp := 0x0001 } =
        some { zero with b := 0x12, c := 0x34, sp := 0xFFFF, pc := 0x0001, t := 16, mem := [(0x0000, 0x12), (0xFFFF, 0x34)] } ∧
    runs 0xC5 0x00 0x00 { zero with b := 0x12, c := 0x34 } =
        some { zero with b := 0x12, c := 0x34, sp := 0xFFFE, pc := 0x0001, t := 16, mem := [(0xFFFE, 0x34), (0xFFFF, 0x12)] } := by
  decide

/-- Vectors of R317, R319. -/
theorem test_vectors_ldNnA_ldANn :
    runs 0xEA 0x00 0xC0 { zero with a := 0x5A } =
        some { zero with a := 0x5A, pc := 0x0003, t := 16, mem := [(0xC000, 0x5A)] } ∧
    runs 0xFA 0x00 0xC0 { zero with mem := [(0xC000, 0x77)] } =
        some { zero with a := 0x77, pc := 0x0003, t := 16, mem := [(0xC000, 0x77)] } := by
  decide

/-- Vectors of R321 to R328. -/
theorem test_vectors_alu_immediate :
    runs 0xC6 0xC6 0x00 { zero with a := 0x3A } = some { zero with f := 0xB0, pc := 0x0002, t := 8 } ∧
    runs 0xCE 0xFF 0x00 { zero with f := 0x10 } = some { zero with f := 0xB0, pc := 0x0002, t := 8 } ∧
    runs 0xD6 0x0F 0x00 { zero with a := 0x3E } = some { zero with a := 0x2F, f := 0x60, pc := 0x0002, t := 8 } ∧
    runs 0xDE 0xFF 0x00 { zero with f := 0x10 } = some { zero with f := 0xF0, pc := 0x0002, t := 8 } ∧
    runs 0xE6 0x00 0x00 { zero with a := 0xFF, f := 0x10 } = some { zero with f := 0xA0, pc := 0x0002, t := 8 } ∧
    runs 0xEE 0xFF 0x00 { zero with a := 0x0F } = some { zero with a := 0xF0, pc := 0x0002, t := 8 } ∧
    runs 0xF6 0x80 0x00 { zero with a := 0x01, f := 0xF0 } = some { zero with a := 0x81, pc := 0x0002, t := 8 } ∧
    runs 0xFE 0x90 0x00 { zero with a := 0x90 } = some { zero with a := 0x90, f := 0xC0, pc := 0x0002, t := 8 } ∧
    runs 0xFE 0x01 0x00 zero = some { zero with f := 0x70, pc := 0x0002, t := 8 } := by
  decide

/-- Vectors of R329. -/
theorem test_vectors_rst :
    runs 0xC7 0x00 0x00 { zero with sp := 0xFFFE, pc := 0x0100 } =
        some { zero with sp := 0xFFFC, t := 16, mem := [(0xFFFC, 0x01), (0xFFFD, 0x01)] } ∧
    runs 0xCF 0x00 0x00 { zero with sp := 0xFFFE, pc := 0x0100 } =
        some { zero with sp := 0xFFFC, pc := 0x0008, t := 16, mem := [(0xFFFC, 0x01), (0xFFFD, 0x01)] } ∧
    runs 0xD7 0x00 0x00 { zero with sp := 0xFFFE, pc := 0x0100 } =
        some { zero with sp := 0xFFFC, pc := 0x0010, t := 16, mem := [(0xFFFC, 0x01), (0xFFFD, 0x01)] } ∧
    runs 0xDF 0x00 0x00 { zero with sp := 0xFFFE, pc := 0x0100 } =
        some { zero with sp := 0xFFFC, pc := 0x0018, t := 16, mem := [(0xFFFC, 0x01), (0xFFFD, 0x01)] } ∧
    runs 0xE7 0x00 0x00 { zero with sp := 0xFFFE, pc := 0x0100 } =
        some { zero with sp := 0xFFFC, pc := 0x0020, t := 16, mem := [(0xFFFC, 0x01), (0xFFFD, 0x01)] } ∧
    runs 0xEF 0x00 0x00 { zero with sp := 0xFFFE, pc := 0x0100 } =
        some { zero with sp := 0xFFFC, pc := 0x0028, t := 16, mem := [(0xFFFC, 0x01), (0xFFFD, 0x01)] } ∧
    runs 0xF7 0x00 0x00 { zero with sp := 0xFFFE, pc := 0x0100 } =
        some { zero with sp := 0xFFFC, pc := 0x0030, t := 16, mem := [(0xFFFC, 0x01), (0xFFFD, 0x01)] } ∧
    runs 0xFF 0x00 0x00 { zero with f := 0xF0, sp := 0xFFFE, pc := 0xFFFF } =
        some { zero with f := 0xF0, sp := 0xFFFC, pc := 0x0038, t := 16 } := by
  decide

/-- Vectors of R340. -/
theorem test_vectors_unrecognised :
    runs 0xD3 0x12 0x34 { zero with a := 0x01, f := 0xF0, sp := 0xFFFE, pc := 0x0100 } =
        some { zero with a := 0x01, f := 0xF0, sp := 0xFFFE, pc := 0x0100 } ∧
    runs 0xDB 0x12 0x34 { zero with a := 0x01, f := 0xF0, sp := 0xFFFE, pc := 0x0100 } =
        some { zero with a := 0x01, f := 0xF0, sp := 0xFFFE, pc := 0x0100 } ∧
    runs 0xDD 0x12 0x34 { zero with a := 0x01, f := 0xF0, sp := 0xFFFE, pc := 0x0100 } =
        some { zero with a := 0x01, f := 0xF0, sp := 0xFFFE, pc := 0x0100 } ∧
    runs 0xE3 0x12 0x34 { zero with a := 0x01, f := 0xF0, sp := 0xFFFE, pc := 0x0100 } =
        some { zero with a := 0x01, f := 0xF0, sp := 0xFFFE, pc := 0x0100 } ∧
    runs 0xE4 0x12 0x34 { zero with a := 0x01, f := 0xF0, sp := 0xFFFE, pc := 0x0100 } =
        some { zero with a := 0x01, f := 0xF0, sp := 0xFFFE, pc := 0x0100 } ∧
    runs 0xEB 0x12 0x34 { zero with a := 0x01, f := 0xF0, sp := 0xFFFE, pc := 0x0100 } =
        some { zero with a := 0x01, f := 0xF0, sp := 0xFFFE, pc := 0x0100 } ∧
    runs 0xEC 0x12 0x34 { zero with a := 0x01, f := 0xF0, sp := 0xFFFE, pc := 0x0100 } =
        some { zero with a := 0x01, f := 0xF0, sp := 0xFFFE, pc := 0x0100 } ∧
    runs 0xED 0x12 0x34 { zero with a := 0x01, f := 0xF0, sp := 0xFFFE, pc := 0x0100 } =
        some { zero with a := 0x01, f := 0xF0, sp := 0xFFFE, pc := 0x0100 } ∧
    runs 0xF4 0x12 0x34 { zero with a := 0x01, f := 0xF0, sp := 0xFFFE, pc := 0x0100 } =
        some { zero with a := 0x01, f := 0xF0, sp := 0xFFFE, pc := 0x0100 } ∧
    runs 0xFC 0x12 0x34 { zero with a := 0x01, f := 0xF0, sp := 0xFFFE, pc := 0x0100 } =
        some { zero with a := 0x01, f := 0xF0, sp := 0xFFFE, pc := 0x0100 } ∧
    runs 0xFD 0x12 0x34 { zero with a := 0x01, f := 0xF0, sp := 0xFFFE, pc := 0x0100 } =
        some { zero with a := 0x01, f := 0xF0, sp := 0xFFFE, pc := 0x0100 } := by
  decide

/-- Vectors of R191 to R198. -/
theorem test_vectors_cb_rotates_and_shifts :
    runs 0xCB 0x00 0x00 { zero with b := 0x85 } = some { zero with f := 0x10, b := 0x0B, pc := 0x0002, t := 8 } ∧
    runs 0xCB 0x00 0x00 { zero with f := 0xF0 } = some { zero with f := 0x80, pc := 0x0002, t := 8 } ∧
    runs 0xCB 0x06 0x00 { zero with h := 0xC0, mem := [(0xC000, 0x80)] } =
        some { zero with f := 0x10, h := 0xC0, pc := 0x0002, t := 16, mem := [(0xC000, 0x01)] } ∧
    runs 0xCB 0x09 0x00 { zero with c := 0x01 } = some { zero with f := 0x10, c := 0x80, pc := 0x0002, t := 8 } ∧
    runs 0xCB 0x0F 0x00 { zero with f := 0x10 } = some { zero with f := 0x80, pc := 0x0002, t := 8 } ∧
    runs 0xCB 0x12 0x00 { zero with d := 0x80 } = some { zero with f := 0x90, pc := 0x0002, t := 8 } ∧
    runs 0xCB 0x12 0x00 { zero with f := 0x10 } = some { zero with d := 0x01, pc := 0x0002, t := 8 } ∧
    runs 0xCB 0x1B 0x00 { zero with e := 0x01 } = some { zero with f := 0x90, pc := 0x0002, t := 8 } ∧
    runs 0xCB 0x1B 0x00 { zero with f := 0x10 } = some { zero with e := 0x80, pc := 0x0002, t := 8 } ∧
    runs 0xCB 0x24 0x00 { zero with f := 0x10, h := 0x80 } = some { zero with f := 0x90, pc := 0x0002, t := 8 } ∧
    runs 0xCB 0x24 0x00 { zero with h := 0x41 } = some { zero with h := 0x82, pc := 0x0002, t := 8 } ∧
    runs 0xCB 0x2D 0x00 { zero with l := 0x81 } = some { zero with f := 0x10, l := 0xC0, pc := 0x0002, t := 8 } ∧
    runs 0xCB 0x2D 0x00 { zero with l := 0x01 } = some { zero with f := 0x90, pc := 0x0002, t := 8 } ∧
    runs 0xCB 0x2F 0x00 { zero with a := 0xFF } = some { zero with a := 0xFF, f := 0x10, pc := 0x0002, t := 8 } ∧
    runs 0xCB 0x37 0x00 { zero with a := 0xF1, f := 0xF0 } = some { zero with a := 0x1F, pc := 0x0002, t := 8 } ∧
    runs 0xCB 0x30 0x00 { zero with f := 0x10 } = some { zero with f := 0x80, pc := 0x0002, t := 8 } ∧
    runs 0xCB 0x36 0x00 { zero with h := 0xC0, mem := [(0xC000, 0x5A)] } =
        some { zero with h := 0xC0, pc := 0x0002, t := 16, mem := [(0xC000, 0xA5)] } ∧
    runs 0xCB 0x38 0x00 { zero with b := 0x01 } = some { zero with f := 0x90, pc := 0x0002, t := 8 } ∧
    runs 0xCB 0x3F 0x00 { zero with a := 0xFF, f := 0xE0 } =
        some { zero with a := 0x7F, f := 0x10, pc := 0x0002, t := 8 } := by
  decide

/-- Vectors of R199. -/
theorem test_vectors_cb_bit :
    runs 0xCB 0x7C 0x00 zero = some { zero with f := 0xA0, pc := 0x0002, t := 8 } ∧
    runs 0xCB 0x7C 0x00 { zero with h := 0x80 } = some { zero with f := 0x20, h := 0x80, pc := 0x0002, t := 8 } ∧
    runs 0xCB 0x40 0x00 { zero with f := 0x10, b := 0xFE } =
        some { zero with f := 0xB0, b := 0xFE, pc := 0x0002, t := 8 } ∧
    runs 0xCB 0x5F 0x00 { zero with a := 0x08, f := 0xF0 } =
        some { zero with a := 0x08, f := 0x30, pc := 0x0002, t := 8 } ∧
    runs 0xCB 0x46 0x00 { zero with h := 0xC0, mem := [(0xC000, 0x01)] } =
        some { zero with f := 0x20, h := 0xC0, pc := 0x0002, t := 16, mem := [(0xC000, 0x01)] } ∧
    runs 0xCB 0x7E 0x00 { zero with h := 0xC0, mem := [(0xC000, 0x7F)] } =
        some { zero with f := 0xA0, h := 0xC0, pc := 0x0002, t := 16, mem := [(0xC000, 0x7F)] } := by
  decide

/-- Vectors of R200, R201. -/
theorem test_vectors_cb_res_set :
    runs 0xCB 0x87 0x00 { zero with a := 0xFF, f := 0xF0 } =
        some { zero with a := 0xFE, f := 0xF0, pc := 0x0002, t := 8 } ∧
    runs 0xCB 0xB8 0x00 { zero with b := 0xFF } = some { zero with b := 0x7F, pc := 0x0002, t := 8 } ∧
    runs 0xCB 0x80 0x00 { zero with b := 0xFE } = some { zero with b := 0xFE, pc := 0x0002, t := 8 } ∧
    runs 0xCB 0x9E 0x00 { zero with h := 0xC0, mem := [(0xC000, 0xFF)] } =
        some { zero with h := 0xC0, pc := 0x0002, t := 16, mem := [(0xC000, 0xF7)] } ∧
    runs 0xCB 0xC7 0x00 { zero with f := 0xF0 } = some { zero with a := 0x01, f := 0xF0, pc := 0x0002, t := 8 } ∧
    runs 0xCB 0xF8 0x00 zero = some { zero with b := 0x80, pc := 0x0002, t := 8 } ∧
    runs 0xCB 0xFF 0x00 { zero with a := 0x80 } = some { zero with a := 0x80, pc := 0x0002, t := 8 } ∧
    runs 0xCB 0xDE 0x00 { zero with h := 0xC0 } =
        some { zero with h := 0xC0, pc := 0x0002, t := 16, mem := [(0xC000, 0x08)] } ∧
    runs 0xCB 0xE6 0x00 { zero with h := 0xFF, l := 0xFF, pc := 0xFFFF, mem := [(0xFFFF, 0x01)] } =
        some { zero with h := 0xFF, l := 0xFF, pc := 0x0001, t := 16, mem := [(0xFFFF, 0x11)] } := by
  decide

/-! ## Witnesses: concrete states and operands that meet the hypotheses of each obligation, clause by clause -/

/-- A state with memory, flags and a running cycle counter: CB C6 at PC = 0xFFFE (SET 0,(HL)), HL = 0xC000. -/
def sample : State := { zero with
  f := 0xF0, h := 0xC0, sp := 0x0001, pc := 0xFFFE, mem := [(0xC000, 0x10), (0xFFFE, 0xCB), (0xFFFF, 0xC6)] }

theorem witness_StepKeepsMemoryCanonical : sample.memOk ∧
    nextOf (step sample) = some { sample with pc := 0, t := 16, mem := [(0xC000, 0x11), (0xFFFE, 0xCB), (0xFFFF, 0xC6)] } := by
  decide

theorem witness_StepKeepsFlagLowNibbleZero : sample.flagsOk ∧ (nextOf (step sample)).isSome = true := by decide

/-- At the bound, t = 24, and at t = 0. -/
theorem witness_StepKeepsCycleCounterBounded :
    State.cyclesOk { sample with t := 24 } ∧ nextOf (step { sample with t := 24 }) = some { sample with t := 23 } ∧
      sample.cyclesOk ∧ (nextOf (step sample)).isSome = true := by decide

/-- Two states that differ in a register and read the same everywhere. -/
theorem witness_CanonicalMemoryIsDeterminedByItsBytes :
    sample.memOk ∧ State.memOk { sample with a := 0x55 } ∧
      ∀ a : Word, memRead a { sample with a := 0x55 } = memRead a sample := ⟨by decide, by decide, fun _ => rfl⟩

/-- t = 0 with a window that wraps around 0xFFFF, and t > 0 at its least. -/
theorem witness_StepRunsTheDecodedInstruction :
    sample.t = 0 ∧ (match decodeWindow (memRead sample.pc sample) (memRead (sample.pc + 1#16) sample)
        (memRead (sample.pc + 2#16) sample) with | .ok i => some i | .error _ => none) = some (.set0 .ind) ∧
      (State.mk 0 0 0 0 0 0 0 0 0 0 1 [] 0).t > 0 := by decide

theorem witness_StepRunsTheBytesAtTheProgramCounter :
    (Instr.set0 .ind).wellFormed = true ∧ sample.t = 0 ∧
      ∀ k : Nat, k < (encode (.set0 .ind)).length →
        memRead (sample.pc + BitVec.ofNat 16 k) sample = (encode (.set0 .ind)).getD k 0#8 := by
  refine ⟨rfl, rfl, fun k hk => ?_⟩
  have h : k < 2 := hk
  interval_cases k <;> decide

/-- A row of each width, and the step that runs the word. -/
theorem witness_StepRunsTheFetchWord :
    decodeTableWord 8 0x3C = some .incA ∧ decodeTableWord 16 0xCB7C = some (.bit7 .h) ∧
      nextOf (step (zero.withFetchWord 8 0x3C)) = some { zero with a := 1, pc := 1, t := 4, mem := [(0, 0x3C)] } := by
  decide

/-- k = t at the bound 24, and k below t. -/
theorem witness_TicksRunDownBeforeTheNextStep :
    24 ≤ State.t { sample with t := 24 } ∧ 1 ≤ State.t { sample with t := 24 } := by decide

theorem witness_UnrecognisedOpcodeStallsForEver :
    State.t { zero with mem := [(0, 0xFD)] } = 0 ∧
      memRead 0 { zero with mem := [(0, 0xFD)] } ∈ unrecognisedOpcodes := by decide

/-- An address outside the set, beside one inside. -/
theorem witness_ExternalWritesTouchOnlyTheirAddresses : (0xFF43#16 : Word) ∉ [(0xFF44#16 : Word)] := by decide

theorem witness_ExecutionIgnoresTheCycleCounter :
    Instr.incA ∉ unrecognisedInstrs ∧ Instr.jpHl ∉ unrecognisedInstrs := by decide

/-- One instruction of each length at an edge of its operand. -/
theorem witness_DecodeOfEncodeIsTheInstruction :
    Instr.stop.wellFormed = true ∧ Instr.rst38.wellFormed = true ∧ (Instr.set7 .a).wellFormed = true ∧
      (Instr.ldSpNn 0xFFFF#16).wellFormed = true ∧ (Instr.jrD 0x80#8).wellFormed = true := by decide

/-- A window that is not STOP and one that is; lengths 1, 2 and 3. -/
theorem witness_EncodeOfDecodedWindow_and_Lengths :
    decodesAs [(0x10#8, .stop), (0xFA#8, .ldAIndNn 0x1234#16), (0xFF#8, .rst38), (0xF8#8, .ldHlSpD 0x34#8)] = true ∧
      Instr.rst38 ≠ .stop ∧ tableEntry lengthTable 0 0xFF#8 = 1 ∧ tableEntry lengthTable 0 0x10#8 = 2 ∧
      tableEntry lengthTable 0 0xF8#8 = 2 ∧ tableEntry lengthTable 0 0xFA#8 = 3 := by decide

/-- CB on (HL) and on a register, a taken and an untaken conditional, an unconditional opcode. -/
theorem witness_CyclesFollowTheCycleTable :
    (0xCB#8 : Byte) ∉ unrecognisedOpcodes ∧ (0xDC#8 : Byte) ∉ unrecognisedOpcodes ∧ fieldZ 0xC6#8 = 6#3 ∧
      fieldZ 0xC7#8 ≠ 6#3 ∧ condition (ccOf (fieldY 0xDC#8)) sample = true ∧
      condition (ccOf (fieldY 0xDC#8)) zero = false ∧ tableEntry cycleTable (0, 0) 0xDC#8 = (24, 12) := by decide

theorem witness_ProgramCounterAdvancesByTheLength :
    Instr.ldHlSpD 0xFF#8 ∉ unrecognisedInstrs ∧ transfers (.ldHlSpD 0xFF#8) = false ∧ transfers .stop = false ∧
      transfers (.jrD 0#8) = true ∧ transfers .jpHl = true := by decide

/-- An instruction of every kind that leaves F, with its next state. -/
theorem witness_FlagsChangeOnlyWhereListed :
    writesFlags .incHl = false ∧ writesFlags (.set0 .ind) = false ∧ writesFlags .pushAf = false ∧
      writesFlags .popAf = true ∧ writesFlags (.bit0 .b) = true ∧ (nextOf (exec .incHl sample)).isSome = true := by decide

/-- A register that is no destination; an instruction that does not write SP; both have a next state. -/
theorem witness_RegistersChangeOnlyAsDestinations :
    (nextOf (exec .ldAIndHlInc sample)).isSome = true ∧ R8.b ∉ destinations .ldAIndHlInc ∧ R8.b ≠ .ind ∧
      destinations .ldAIndHlInc = [.a, .h, .l] ∧ writesSP .ldAIndHlInc = false ∧ writesSP (.addSpD 1#8) = true := by decide

/-- Forms that store (one byte, two bytes around the wrap) and forms that do not, with next states. -/
theorem witness_MemoryChangesOnlyWhereStored :
    storedTo .pushBc sample = [0xFFFF#16, 0x0000#16] ∧ (nextOf (exec .pushBc sample)).isSome = true ∧
      (0x0001#16 : Word) ∉ storedTo .pushBc sample ∧ storedTo (.set0 .ind) sample = [0xC000#16] ∧
      storedTo (.bit0 .ind) sample = [] ∧ storedTo (.callCNn 0#16) zero = [] ∧
      storedTo (.callCNn 0#16) sample = [0xFFFF#16, 0x0000#16] := by decide

/-- Neighbours of a stored byte and of a stored word that wraps. -/
theorem witness_ByteWrite_and_WordAccess :
    (0x0000#16 : Word) ≠ 0xFFFF#16 ∧ (0x0001#16 : Word) ≠ 0xFFFF#16 ∧ (0x0001#16 : Word) ≠ 0xFFFF#16 + 1#16 := by decide

theorem witness_PairsAreViewsOfTheirHalves : (0xFF01#16 : Word).toNat = (0xFF#8 : Byte).toNat * 256 + (0x01#8 : Byte).toNat := by
  decide

/-- Each of y and z may be 6, not both. -/
theorem witness_LoadOperandFromOperand :
    ¬ ((6#3 : BitVec 3) = 6#3 ∧ (7#3 : BitVec 3) = 6#3) ∧ ¬ ((5#3 : BitVec 3) = 6#3 ∧ (6#3 : BitVec 3) = 6#3) := by decide

/-- Addresses beside the slot, where the slot itself wraps: sp = 0x0001. -/
theorem witness_PushStoresThePairBelowSP :
    (0xFFFE#16 : Word) ≠ sample.sp - 2#16 ∧ (0xFFFE#16 : Word) ≠ sample.sp - 1#16 ∧
      (0x0001#16 : Word) ≠ sample.sp - 2#16 ∧ (0x0001#16 : Word) ≠ sample.sp - 1#16 := by decide

/-- A push with a next state, and a pop into AF and into another pair. -/
theorem witness_PushThenPopRestoresValueAndSP :
    (nextOf (exec (selPush .hl) sample)).isSome = true ∧ Rf.de ≠ .af ∧ (nextOf (exec (selPush .af) sample)).isSome = true := by
  decide

/-- The four combinations of the low and the high correction, after an addition and after a subtraction. -/
theorem witness_DecimalAdjustAlgorithm :
    (daaLow 0x9A#8 0x00#8 ∧ daaHigh 0x9A#8 0x00#8) ∧ (daaLow 0x0A#8 0x00#8 ∧ ¬ daaHigh 0x0A#8 0x00#8) ∧
      (¬ daaLow 0xA0#8 0x00#8 ∧ daaHigh 0xA0#8 0x00#8) ∧ (¬ daaLow 0x99#8 0x00#8 ∧ ¬ daaHigh 0x99#8 0x00#8) ∧
      (daaLow 0x00#8 0x70#8 ∧ daaHigh 0x00#8 0x70#8) ∧ (¬ daaLow 0xFF#8 0x40#8 ∧ ¬ daaHigh 0xFF#8 0x40#8) ∧
      Nset 0x40#8 ∧ ¬ Nset 0x00#8 := by
  unfold daaLow daaHigh Hset Cset Nset; decide

/-- Both operands at the largest and at the least decimal byte, the second from memory at HL. -/
theorem witness_DecimalAdjustCorrectsBcdArithmetic :
    isBcd 0x99#8 ∧ isBcd (readR .b { zero with b := 0x99 }) ∧ isBcd 0x00#8 ∧ isBcd (readR .ind sample) ∧ ¬ isBcd 0x9A#8 := by
  unfold isBcd; decide

/-- RL then RR of (HL), with the carry set before. -/
theorem witness_ComplementaryRotatesRestoreTheOperand :
    (RotOp.rl, RotOp.rr) ∈ [(RotOp.rlc, RotOp.rrc), (.rrc, .rlc), (.rl, .rr), (.rr, .rl), (.swap, .swap)] ∧
      nextOf (exec (selRot .rl .ind) sample) = some (writeR .ind 0x21#8 { sample with f := 0x00, pc := 0, t := 16 }) ∧
      (nextOf (exec (selRot .rr .ind) (writeR .ind 0x21#8 { sample with f := 0x00, pc := 0, t := 16 }))).isSome = true := by
  decide

/-- Every condition true in one state and false in another (JR, JP, CALL, RET). -/
theorem witness_conditions_taken_and_not_taken :
    condition .nz zero = true ∧ condition .z zero = false ∧ condition .nc zero = true ∧ condition .c zero = false ∧
      condition .nz sample = false ∧ condition .z sample = true ∧ condition .nc sample = false ∧
      condition .c sample = true := by decide

/-- A CALL, a taken conditional CALL and an RST, each with its next state. -/
theorem witness_ReturnAfterCallResumes :
    (nextOf (exec (.callNn 0x1234#16) sample)).isSome = true ∧
      selCallCc .c 0xFFFF#16 = .callCNn 0xFFFF#16 ∧ condition .c sample = true ∧
      (nextOf (exec (selCallCc .c 0xFFFF#16) sample)).isSome = true ∧
      selRst 7#3 = .rst38 ∧ (nextOf (exec (selRst 7#3) sample)).isSome = true := by decide

theorem witness_ExactlyElevenOpcodes_and_Unrecognised :
    unrecognisedOpcodes.length = 11 ∧ unrecognisedInstrs.length = 11 ∧ (0x00#8 : Byte) ∉ unrecognisedOpcodes ∧
      Instr.unrecognisedE3 ∈ unrecognisedInstrs := by decide

end Sys2Proof.Tests
end

section
/-! Proofs of the family 10_state.md: the pair views as numbers and as updates of the state (R21), and the operand
tables by index (R26, R27, R28). -/

namespace Sys2Proof.Machine

/-! ## The pair views (10_state.md R21) -/

theorem pairAF_toNat (s : State) : (pairAF s).toNat = s.a.toNat * 256 + s.f.toNat := compose_toNat s.a s.f
theorem pairBC_toNat (s : State) : (pairBC s).toNat = s.b.toNat * 256 + s.c.toNat := compose_toNat s.b s.c
theorem pairDE_toNat (s : State) : (pairDE s).toNat = s.d.toNat * 256 + s.e.toNat := compose_toNat s.d s.e
theorem pairHL_toNat (s : State) : (pairHL s).toNat = s.h.toNat * 256 + s.l.toNat := compose_toNat s.h s.l

/-- A word is determined by its two bytes read as a number. -/
theorem eq_compose_of_toNat {v : Word} {hi lo : Byte} (h : v.toNat = hi.toNat * 256 + lo.toNat) :
    v = compose hi lo :=
  BitVec.eq_of_toNat_eq (h.trans (compose_toNat hi lo).symm)

@[simp] theorem setAF_compose (hi lo : Byte) (s : State) : setAF (compose hi lo) s = { s with a := hi, f := lo } := by
  simp [setAF]

@[simp] theorem setBC_compose (hi lo : Byte) (s : State) : setBC (compose hi lo) s = { s with b := hi, c := lo } := by
  simp [setBC]

@[simp] theorem setDE_compose (hi lo : Byte) (s : State) : setDE (compose hi lo) s = { s with d := hi, e := lo } := by
  simp [setDE]

@[simp] theorem setHL_compose (hi lo : Byte) (s : State) : setHL (compose hi lo) s = { s with h := hi, l := lo } := by
  simp [setHL]

/-- Settles O27: a pair is the composition of its halves, so a read is its value and a write of a composed word
puts each byte in its half. -/
theorem pairsAreViewsOfTheirHalves : Obligations.PairsAreViewsOfTheirHalves := by
  intro s v
  refine ⟨⟨pairAF_toNat s, pairBC_toNat s, pairDE_toNat s, pairHL_toNat s⟩, fun hi lo hv => ?_,
    fun r => readRf_writeRf r v s⟩
  obtain rfl := eq_compose_of_toNat hv
  exact ⟨setAF_compose hi lo s, setBC_compose hi lo s, setDE_compose hi lo s, setHL_compose hi lo s⟩

/-! ## The operand tables by index (10_state.md R26, R27, R28) -/

/-- Settles O28: every index selects its entry of the table by computation; what is left is the value of the pair
that an entry of `rp` reads. -/
theorem operandTablesByIndex : Obligations.OperandTablesByIndex := by
  intro s v w
  refine ⟨?readR, ?writeR, ?readRp, ?writeRp, ?rf⟩
  case readR => and_intros <;> rfl
  case writeR => and_intros <;> rfl
  case readRp => exact ⟨pairBC_toNat s, pairDE_toNat s, pairHL_toNat s, rfl⟩
  case writeRp => and_intros <;> rfl
  case rf => and_intros <;> rfl

end Sys2Proof.Machine
end

section
/-! Proofs of the family 20_memory.md: what a byte write leaves unchanged beside the memory (R55). -/

namespace Sys2Proof.Machine

/-- A byte write changes only the memory: with the old memory put back the state is the old one. -/
theorem memWrite_restore_mem (addr : Word) (v : Byte) (s : State) : { memWrite addr v s with mem := s.mem } = s := rfl

/-- Settles O25: the read-after-write laws at the address and beside it, and the frame of the other fields. -/
theorem byteWriteReplacesTheByte : Obligations.ByteWriteReplacesTheByte := by
  intro addr v s
  exact ⟨memRead_memWrite_same addr v s, fun _ hne => memRead_memWrite_ne v s hne, memWrite_restore_mem addr v s⟩

end Sys2Proof.Machine
end

section
/-! Proofs of the family 43_x0_block.md: NOP (R220). -/

namespace Sys2Proof.Machine

@[simp] theorem encode_nop : encode .nop = [0x00#8] := rfl

/-- NOP is nothing but the advance past its one byte (43_x0_block.md R220). -/
@[simp] theorem exec_nop (s : State) : exec .nop s = .next (advance 1#16 cycNop s) := rfl

/-- Settles O58: the encoding is the single byte 00, and the advance writes only PC (modulo 65536, as a sum of words)
and t (the four cycles of `cycNop`). -/
theorem nopAdvancesOneByte : Obligations.NopAdvancesOneByte :=
  fun s => ⟨encode_nop, exec_nop s⟩

end Sys2Proof.Machine
end

section
/-! Proofs of the family 44_x1_ld_r_r.md: LD r[y],r[z] (R270). -/

namespace Sys2Proof.Machine

/-! ## Table `r` and its index (10_state.md R26) -/

@[simp] theorem r8Index_r8Of (i : BitVec 3) : r8Index (r8Of i) = i := by revert i; decide

/-- The memory operand (HL) is entry 6 of the table and no other. -/
@[simp] theorem r8Of_eq_ind_iff (i : BitVec 3) : r8Of i = .ind ↔ i = 6#3 := by revert i; decide

/-! ## The block x = 1 (R82, R88) -/

/-- The opcode's number is its fields in base 8. -/
theorem opcodeOf_eq_ofNat (x : BitVec 2) (y z : BitVec 3) :
    opcodeOf x y z = BitVec.ofNat 8 (64 * x.toNat + 8 * y.toNat + z.toNat) := by
  revert x y z; decide

/-- The encoding holds of the whole block, HALT included, whose byte stands in place of LD (HL),(HL). -/
theorem encode_selLdRR (dst src : R8) :
    encode (selLdRR dst src) = [opcodeOf 1#2 (r8Index dst) (r8Index src)] := by
  cases dst <;> cases src <;> rfl

/-- Each row of the block but HALT runs `ldRR` on its two operands. -/
theorem exec_selLdRR {dst src : R8} (not_halt : ¬ (dst = .ind ∧ src = .ind)) (s : State) :
    exec (selLdRR dst src) s = .next (ldRR dst src s) := by
  cases dst
  case ind =>
    cases src
    case ind => exact absurd ⟨rfl, rfl⟩ not_halt
    all_goals rfl
  all_goals cases src <;> rfl

/-- The state LD r,r' leaves: the destination takes the source of the state before, and only PC and t change beside it. -/
theorem ldRR_eq (dst src : R8) (s : State) :
    ldRR dst src s = { writeR dst (readR src s) s with
      pc := s.pc + 1#16, t := if dst = .ind ∨ src = .ind then 8 else 4 } := by
  simp only [ldRR, advance, writeR_pc, cycLdMem, cycLdRR]

/-- Settles O29: the number of the opcode from its fields, and the one operation `ldRR` that all 63 rows run. -/
theorem loadOperandFromOperand : Obligations.LoadOperandFromOperand := by
  intro y z s not_both
  have not_halt : ¬ (r8Of y = .ind ∧ r8Of z = .ind) := by simpa using not_both
  constructor
  · simp [encode_selLdRR, opcodeOf_eq_ofNat]
  · simp [exec_selLdRR not_halt, ldRR_eq]

end Sys2Proof.Machine
end

section
/-! Proofs of the family 45_x2_alu_a_r.md: the accumulator operations with r[z] (R280 to R287). -/

namespace Sys2Proof.Machine

open Sys2Proof.Claims

/-! ## Flags in the terms of the statements (10_state.md R24) -/

/-- The F that `flags` writes holds exactly its four arguments. -/
@[simp] theorem flagsAre_flags_iff (z n h c : Bool) (Z N H C : Prop) :
    FlagsAre (flags z n h c) Z N H C ↔ (z = true ↔ Z) ∧ (n = true ↔ N) ∧ (h = true ↔ H) ∧ (c = true ↔ C) := by
  have hz : (flags z n h c).getLsbD 7 = z := flagZ_flags z n h c
  have hn : (flags z n h c).getLsbD 6 = n := flagN_flags z n h c
  have hh : (flags z n h c).getLsbD 5 = h := flagH_flags z n h c
  have hc : (flags z n h c).getLsbD 4 = c := flagC_flags z n h c
  simp only [FlagsAre, hz, hn, hh, hc, flags_low_nibble, and_true]

theorem carryIn_eq_cin (f : Byte) : carryIn f = cin f := by
  unfold carryIn cin flagC; cases f.getLsbD 4 <;> rfl

theorem cin_le_one (f : Byte) : cin f ≤ 1 := carryIn_eq_cin f ▸ carryIn_le_one f

/-! ## The ALU functions meet their rules (40_bitops_alu.md R125 to R132) -/

theorem add8_leaves (a b : Byte) (carry : Nat) : AluLeaves .add a b carry (add8 a b).1 (add8 a b).2 := by
  simp [AluLeaves, add8, nibble_eq_mod]

theorem adc8_leaves (a b f : Byte) : AluLeaves .adc a b (cin f) (adc8 a b f).1 (adc8 a b f).2 := by
  simp [AluLeaves, adc8, nibble_eq_mod, carryIn_eq_cin]

theorem and8_leaves (a b : Byte) (carry : Nat) : AluLeaves .and a b carry (and8 a b).1 (and8 a b).2 := by
  simp [AluLeaves, and8]

theorem xor8_leaves (a b : Byte) (carry : Nat) : AluLeaves .xor a b carry (xor8 a b).1 (xor8 a b).2 := by
  simp [AluLeaves, xor8]

theorem or8_leaves (a b : Byte) (carry : Nat) : AluLeaves .or a b carry (or8 a b).1 (or8 a b).2 := by
  simp [AluLeaves, or8]

theorem toNat_sub_eq_emod (a b : Byte) : ((a - b).toNat : Int) = ((a.toNat : Int) - b.toNat) % 256 := by
  rw [BitVec.toNat_sub]; omega

theorem sub8_leaves (a b : Byte) (carry : Nat) : AluLeaves .sub a b carry (sub8 a b).1 (sub8 a b).2 := by
  exact ⟨toNat_sub_eq_emod a b, by simp [sub8, nibble_eq_mod]⟩

/-- The model compares naturals where R128 asks for a negative difference: `half` and `full` say they agree. -/
theorem sbc8_leaves (a b f : Byte) : AluLeaves .sbc a b (cin f) (sbc8 a b f).1 (sbc8 a b f).2 := by
  simp only [AluLeaves, sbc8, flagsAre_flags_iff, nibble_eq_mod, carryIn_eq_cin, decide_eq_true_iff]
  refine ⟨?result, by simp, by simp, ?half, ?full⟩
  case result =>
    have cin_lt : cin f < 256 := by have := cin_le_one f; omega
    have narrow : (BitVec.ofNat 8 (cin f)).toNat = cin f := Nat.mod_eq_of_lt cin_lt
    rw [toNat_sub_eq_emod, toNat_sub_eq_emod, narrow, Int.emod_sub_emod]
  case half => omega
  case full => omega

theorem cp8_leaves (a b : Byte) (carry : Nat) : AluLeaves .cp a b carry (cp8 a b).1 (cp8 a b).2 := by
  have zero : a - b = 0#8 ↔ a = b := by bv_omega
  exact ⟨rfl, by simp [cp8, sub8, nibble_eq_mod, zero]⟩

/-- Each entry of the table `al` meets its rule, with the incoming carry of F. -/
theorem aluApply_leaves (op : AluOp) (a b f : Byte) :
    AluLeaves op a b (cin f) (aluApply op a b f).1 (aluApply op a b f).2 := by
  cases op with
  | add => exact add8_leaves a b _
  | adc => exact adc8_leaves a b f
  | sub => exact sub8_leaves a b _
  | sbc => exact sbc8_leaves a b f
  | and => exact and8_leaves a b _
  | xor => exact xor8_leaves a b _
  | or => exact or8_leaves a b _
  | cp => exact cp8_leaves a b _

/-! ## The block x = 2 (30_encoding.md R82, R89) -/

/-- Each row of the block is written with its operation in y and its operand in z. -/
theorem encode_selAluR (op : AluOp) (src : R8) :
    encode (selAluR op src) = [opcodeOf 2#2 (BitVec.ofNat 3 (alIndex op)) (r8Index src)] := by
  cases op <;> cases src <;> rfl

/-- Each row of the block runs `aluR` on its operand. -/
theorem exec_selAluR (op : AluOp) (src : R8) (s : State) : exec (selAluR op src) s = .next (aluR op src s) := by
  cases op <;> cases src <;> rfl

/-- The state an accumulator operation leaves: A and F as the ALU gives them from the state before, and only PC and t
change beside them. -/
theorem aluR_eq (op : AluOp) (src : R8) (s : State) :
    aluR op src s = { s with
      a := (aluApply op s.a (readR src s) s.f).1, f := (aluApply op s.a (readR src s) s.f).2,
      pc := s.pc + 1#16, t := if src = .ind then 8 else 4 } := by
  simp only [aluR, advance, aluA, regOrMem, cycAluMem, cycAluR]

/-- The opcode's number: the block starts at 0x80, and each operation has eight opcodes in a row. -/
theorem encode_selAluR_r8Of (op : AluOp) (z : BitVec 3) :
    encode (selAluR op (r8Of z)) = [BitVec.ofNat 8 (0x80 + 8 * alIndex op + z.toNat)] := by
  have in_field : alIndex op % 8 = alIndex op := by cases op <;> rfl
  simp [encode_selAluR, opcodeOf_eq_ofNat, in_field]

/-- What every row of the block does, for all eight operations: A and F are those of `aluApply`. -/
theorem exec_selAluR_r8Of (op : AluOp) (z : BitVec 3) (s : State) :
    ∃ r f, exec (selAluR op (r8Of z)) s = .next { s with
        a := r, f := f, pc := s.pc + 1#16, t := if z = 6#3 then 8 else 4 } ∧
      AluLeaves op s.a (readR (r8Of z) s) (cin s.f) r f := by
  refine ⟨_, _, ?next, aluApply_leaves op s.a (readR (r8Of z) s) s.f⟩
  case next => simp only [exec_selAluR, aluR_eq, r8Of_eq_ind_iff]

/-- Settles O37: the five operations are entries of the table `al`, whose rows are all encoded and run alike. -/
theorem accumulatorOperationWithOperand : Obligations.AccumulatorOperationWithOperand := by
  intro op _ z s
  exact ⟨encode_selAluR_r8Of op z, exec_selAluR_r8Of op z s⟩

end Sys2Proof.Machine
end

section
/-! Proofs of the family `other`, part 1: the encoder and the decoder undo each other (30_encoding.md R80 to R98), and
the rows of the opcode map with the operation that each of them runs. -/

namespace Sys2Proof

open Sys2Proof.Machine Sys2Proof.Claims

/-! ## An encoding at the head of a window -/

theorem singleton_isPrefix (op b1 b2 : Byte) : [op] <+: [op, b1, b2] := ⟨[b1, b2], rfl⟩

theorem opN_isPrefix (op b1 b2 : Byte) : opN op b1 <+: [op, b1, b2] := ⟨[b2], rfl⟩

theorem opNn_isPrefix (op b1 b2 : Byte) : opNn op (compose b2 b1) <+: [op, b1, b2] := by
  simp [opNn]

/-- A list of at most three bytes heads the three bytes that are read at the start of any list it heads. -/
theorem isPrefix_head_of_append {bytes : List Byte} (short : bytes.length ≤ 3) (rest : List Byte) :
    bytes <+: [(bytes ++ rest).getD 0 0#8, (bytes ++ rest).getD 1 0#8, (bytes ++ rest).getD 2 0#8] := by
  match bytes, short with
  | [], _ => exact List.nil_prefix
  | [x], _ => exact singleton_isPrefix x _ _
  | [x, y], _ => exact opN_isPrefix x y _
  | [x, y, z], _ => exact List.prefix_rfl

section
variable {b0 b1 b2 op n : Byte}

theorem window_of_singleton (h : [op] <+: [b0, b1, b2]) : b0 = op := by
  simpa [eq_comm] using h

theorem window_of_opN (h : [op, n] <+: [b0, b1, b2]) : b0 = op ∧ b1 = n := by
  simpa [eq_comm] using h

theorem window_of_opNn {nn : Word} (h : opNn op nn <+: [b0, b1, b2]) : b0 = op ∧ nn = compose b2 b1 := by
  obtain ⟨rfl, rfl, rfl⟩ : op = b0 ∧ lowByte nn = b1 ∧ highByte nn = b2 := by simpa [opNn] using h
  exact ⟨rfl, (compose_high_low nn).symm⟩

end

/-- The decoder reads an instruction back from its own bytes, whatever bytes complete the window: by the format of the
encoding (R83), the opcode selects the row and the bytes after it are the operand. -/
theorem decodeWindow_of_encode_isPrefix {i : Instr} (wf : i.wellFormed = true) {b0 b1 b2 : Byte}
    (h : encode i <+: [b0, b1, b2]) : decodeWindow b0 b1 b2 = .ok i := by
  cases i with
  | prefixCb b1 => cases wf
  | ldBcNn nn | ldIndNnSp nn | ldDeNn nn | ldHlNn nn | ldSpNn nn | jpNzNn nn | jpNn nn | callNzNn nn | jpZNn nn
  | callZNn nn | callNn nn | jpNcNn nn | callNcNn nn | jpCNn nn | callCNn nn | ldIndNnA nn | ldAIndNn nn =>
    obtain ⟨rfl, rfl⟩ := window_of_opNn h
    rfl
  | ldBN n | ldCN n | ldDN n | jrD n | ldEN n | jrNzD n | ldHN n | jrZD n | ldLN n | jrNcD n | ldIndHlN n | jrCD n
  | ldAN n | addAN n | adcAN n | subAN n | sbcAN n | ldhIndNA n | andAN n | addSpD n | xorAN n | ldhAIndN n | orAN n
  | ldHlSpD n | cpAN n | stop =>
    obtain ⟨rfl, rfl⟩ := window_of_opN h
    rfl
  | rlcR z | rrcR z | rlR z | rrR z | slaR z | sraR z | swapR z | srlR z
  | bit0 z | bit1 z | bit2 z | bit3 z | bit4 z | bit5 z | bit6 z | bit7 z
  | res0 z | res1 z | res2 z | res3 z | res4 z | res5 z | res6 z | res7 z
  | set0 z | set1 z | set2 z | set3 z | set4 z | set5 z | set6 z | set7 z =>
    obtain ⟨rfl, rfl⟩ := window_of_opN h
    cases z <;> rfl
  | _ =>
    obtain rfl := window_of_singleton h
    rfl

/-- An encoding is an opcode byte and as many bytes after it as that byte's length says (R81). -/
theorem encode_eq_cons (i : Instr) : ∃ b0 tail, encode i = b0 :: tail ∧ tail.length + 1 = opcodeLength b0 := by
  cases i <;> exact ⟨_, _, rfl, rfl⟩

theorem encode_length_le (i : Instr) : (encode i).length ≤ 3 := by
  have := encode_length i
  omega

/-- Settles O16: the opcode byte gives the length of the encoding, and its window gives the instruction. -/
theorem decodeOfEncodeIsTheInstruction : Obligations.DecodeOfEncodeIsTheInstruction := by
  intro i rest wf
  have window := decodeWindow_of_encode_isPrefix wf (isPrefix_head_of_append (encode_length_le i) rest)
  obtain ⟨b0, tail, bytes, len⟩ := encode_eq_cons i
  rw [bytes] at window ⊢
  have enough : ¬ (tail ++ rest).length + 1 < opcodeLength b0 := by
    rw [List.length_append]; omega
  have whole : (tail ++ rest).drop (opcodeLength b0 - 1) = rest := by
    rw [← len, Nat.add_sub_cancel, List.drop_left]
  rw [List.cons_append, decode_of_window enough window, whole]

end Sys2Proof
end

section
/-! Proofs of the family `other`, part 2: the rows of the instruction map, each with the one operation it runs. A
statement about every instruction is then a case per operation, not a case per instruction. -/

namespace Sys2Proof.Machine

open Sys2Proof.Claims

/-! ## Loads and stores of A through an address (R227 to R234, R301, R303, R316 to R319) -/

/-- How a load or a store of A names its byte: BC, DE, HL+, HL-, 0xFF00 + n, 0xFF00 + C, nn. -/
inductive APtr where
  | bc | de | hlInc | hlDec | highN (n : Byte) | highC | abs (nn : Word)

/-- The store of A. -/
def APtr.selStore : APtr → Instr
  | .bc => .ldIndBcA | .de => .ldIndDeA | .hlInc => .ldIndHlIncA | .hlDec => .ldIndHlDecA
  | .highN n => .ldhIndNA n | .highC => .ldhIndCA | .abs nn => .ldIndNnA nn

/-- The load of A. -/
def APtr.selLoad : APtr → Instr
  | .bc => .ldAIndBc | .de => .ldAIndDe | .hlInc => .ldAIndHlInc | .hlDec => .ldAIndHlDec
  | .highN n => .ldhAIndN n | .highC => .ldhAIndC | .abs nn => .ldAIndNn nn

/-- The address of the byte. -/
def APtr.addr (p : APtr) (s : State) : Word :=
  match p with
  | .bc => pairBC s | .de => pairDE s | .hlInc => pairHL s | .hlDec => pairHL s
  | .highN n => highPage n | .highC => highPage s.c | .abs nn => nn

/-- What HL+ and HL- do to HL. -/
def APtr.moveHl (p : APtr) (s : State) : State :=
  match p with
  | .hlInc => setHL (inc16 (pairHL s)) s
  | .hlDec => setHL (dec16 (pairHL s)) s
  | _ => s

/-- The length of both instructions. -/
def APtr.len : APtr → Word
  | .highN _ => 2#16
  | .abs _ => 3#16
  | _ => 1#16

/-- The cycle count of both instructions. -/
def APtr.cycles : APtr → Nat
  | .highN _ => cycLdhN
  | .highC => cycLdhC
  | .abs _ => cycLdAbs
  | _ => cycLdIndirect

/-- The store as one operation. -/
def APtr.store (p : APtr) (s : State) : State := p.moveHl (storeA (p.addr s) p.len p.cycles s)

/-- The load as one operation. -/
def APtr.load (p : APtr) (s : State) : State := p.moveHl (loadA (p.addr s) p.len p.cycles s)

theorem exec_selStore (p : APtr) (s : State) : exec p.selStore s = .next (p.store s) := by cases p <;> rfl

theorem exec_selLoad (p : APtr) (s : State) : exec p.selLoad s = .next (p.load s) := by cases p <;> rfl

/-! ## Accumulator and flag operations (R240 to R247) -/

/-- The row of block x = 0, z = 7 by its field y. -/
def selAcc : BitVec 3 → Instr
  | 0 => .rlca | 1 => .rrca | 2 => .rla | 3 => .rra | 4 => .daa | 5 => .cpl | 6 => .scf | 7 => .ccf

/-- What that row leaves in A and in F. -/
def accApply (y : BitVec 3) (a f : Byte) : Byte × Byte :=
  match y with
  | 0 => rotAccumulator .rlc a f
  | 1 => rotAccumulator .rrc a f
  | 2 => rotAccumulator .rl a f
  | 3 => rotAccumulator .rr a f
  | 4 => daa a f
  | 5 => cpl a f
  | 6 => (a, scf f)
  | 7 => (a, ccf f)

/-- A three-bit field has eight values. -/
theorem field_cases (y : BitVec 3) : y = 0 ∨ y = 1 ∨ y = 2 ∨ y = 3 ∨ y = 4 ∨ y = 5 ∨ y = 6 ∨ y = 7 := by
  revert y; decide

theorem exec_selAcc (y : BitVec 3) (s : State) : exec (selAcc y) s = .next (withAF (accApply y s.a s.f) s) := by
  rcases field_cases y with rfl | rfl | rfl | rfl | rfl | rfl | rfl | rfl <;> rfl

/-! ## The operation of each selected row -/

theorem exec_selLdRN (r : R8) (n : Byte) (s : State) : exec (selLdRN r n) s = .next (ldRN r n s) := by
  cases r <;> rfl

theorem exec_selIncR (r : R8) (s : State) : exec (selIncR r) s = .next (incR r s) := by cases r <;> rfl

theorem exec_selDecR (r : R8) (s : State) : exec (selDecR r) s = .next (decR r s) := by cases r <;> rfl

theorem exec_selAluN (op : AluOp) (n : Byte) (s : State) : exec (selAluN op n) s = .next (aluN op n s) := by
  cases op <;> rfl

theorem exec_selLdRpNn (r : Rp) (nn : Word) (s : State) : exec (selLdRpNn r nn) s = .next (ldRpNn r nn s) := by
  cases r <;> rfl

theorem exec_selAddHl (r : Rp) (s : State) : exec (selAddHl r) s = .next (addHl r s) := by cases r <;> rfl

theorem exec_selIncRp (r : Rp) (s : State) : exec (selIncRp r) s = .next (incRp r s) := by cases r <;> rfl

theorem exec_selDecRp (r : Rp) (s : State) : exec (selDecRp r) s = .next (decRp r s) := by cases r <;> rfl

theorem exec_selPush (r : Rf) (s : State) : exec (selPush r) s = .next (pushRf r s) := by cases r <;> rfl

theorem exec_selPop (r : Rf) (s : State) : exec (selPop r) s = .next (popRf r s) := by cases r <;> rfl

theorem exec_selJrCc (cc : Cc) (d : Byte) (s : State) : exec (selJrCc cc d) s = .next (jrCc cc d s) := by
  cases cc <;> rfl

theorem exec_selJpCc (cc : Cc) (nn : Word) (s : State) : exec (selJpCc cc nn) s = .next (jpCc cc nn s) := by
  cases cc <;> rfl

theorem exec_selCallCc (cc : Cc) (nn : Word) (s : State) : exec (selCallCc cc nn) s = .next (callCc cc nn s) := by
  cases cc <;> rfl

theorem exec_selRetCc (cc : Cc) (s : State) : exec (selRetCc cc) s = .next (retCc cc s) := by cases cc <;> rfl

theorem exec_selRst (y : BitVec 3) (s : State) :
    exec (selRst y) s = .next (rst (BitVec.ofNat 16 (8 * y.toNat)) s) := by
  rcases field_cases y with rfl | rfl | rfl | rfl | rfl | rfl | rfl | rfl <;> rfl

theorem exec_selRot (op : RotOp) (z : R8) (s : State) : exec (selRot op z) s = .next (rotateR op z s) := by
  cases op <;> rfl

theorem exec_selBit (i : Fin 8) (z : R8) (s : State) : exec (selBit i z) s = .next (bitR i z s) := by
  fin_cases i <;> rfl

theorem exec_selRes (i : Fin 8) (z : R8) (s : State) : exec (selRes i z) s = .next (resR i z s) := by
  fin_cases i <;> rfl

theorem exec_selSet (i : Fin 8) (z : R8) (s : State) : exec (selSet i z) s = .next (setR i z s) := by
  fin_cases i <;> rfl

/-- A CB instruction runs what the row of the 0xCB byte runs on its sub-opcode (R85, log 20). -/
theorem exec_decodeCb (b1 : Byte) (s : State) : exec (decodeCb b1) s = .next (prefixed b1 s) := by
  unfold decodeCb prefixed
  generalize fieldX b1 = x
  match x with
  | 0 => exact exec_selRot _ _ s
  | 1 => exact exec_selBit _ _ s
  | 2 => exact exec_selRes _ _ s
  | 3 => exact exec_selSet _ _ s

/-- The bytes of a CB instruction: its sub-opcode is the one it is decoded from. -/
theorem encode_decodeCb (b1 : Byte) : encode (decodeCb b1) = [0xCB#8, b1] := by
  revert b1; decide

theorem exec_unrecognised {i : Instr} (h : i ∈ unrecognisedInstrs) (s : State) : exec i s = .next s := by
  simp only [unrecognisedInstrs, List.mem_cons, List.not_mem_nil, or_false] at h
  rcases h with rfl | rfl | rfl | rfl | rfl | rfl | rfl | rfl | rfl | rfl | rfl <;> rfl

/-! ## The rows of the map -/

/-- `Row i run`: the instruction `i` stands in a row of the map whose operation is `run`. -/
inductive Row : Instr → (State → State) → Prop
  | nop : Row .nop (advance 1#16 cycNop)
  | stop : Row .stop (stop Config.stopLen)
  | halt : Row .halt (advance 1#16 cycHalt)
  | di : Row .di (advance 1#16 cycDiEi)
  | ei : Row .ei (advance 1#16 cycDiEi)
  | jr (d : Byte) : Row (.jrD d) (fun s => jumpTo (jrTarget d s) cycJr s)
  | jrCc (cc : Cc) (d : Byte) : Row (selJrCc cc d) (jrCc cc d)
  | jp (nn : Word) : Row (.jpNn nn) (jumpTo nn cycJp)
  | jpHl : Row .jpHl (fun s => jumpTo (pairHL s) cycJpHl s)
  | jpCc (cc : Cc) (nn : Word) : Row (selJpCc cc nn) (jpCc cc nn)
  | call (nn : Word) : Row (.callNn nn) (call nn)
  | callCc (cc : Cc) (nn : Word) : Row (selCallCc cc nn) (callCc cc nn)
  | rst (y : BitVec 3) : Row (selRst y) (rst (BitVec.ofNat 16 (8 * y.toNat)))
  | ret : Row .ret (ret cycRet)
  | reti : Row .reti (ret cycRet)
  | retCc (cc : Cc) : Row (selRetCc cc) (retCc cc)
  | storeSp (nn : Word) : Row (.ldIndNnSp nn) (fun s => advance 3#16 cycStoreSp (memWrite16 nn s.sp s))
  | ldRpNn (r : Rp) (nn : Word) : Row (selLdRpNn r nn) (ldRpNn r nn)
  | ldSpHl : Row .ldSpHl (fun s => advance 1#16 cycLdSpHl (writeRp .sp (pairHL s) s))
  | push (r : Rf) : Row (selPush r) (pushRf r)
  | pop (r : Rf) : Row (selPop r) (popRf r)
  | addHl (r : Rp) : Row (selAddHl r) (addHl r)
  | incRp (r : Rp) : Row (selIncRp r) (incRp r)
  | decRp (r : Rp) : Row (selDecRp r) (decRp r)
  | addSp (d : Byte) : Row (.addSpD d) (addSpD Config.spdFlags d)
  | ldHlSp (d : Byte) : Row (.ldHlSpD d) (ldHlSpD Config.spdFlags d)
  | incR (r : R8) : Row (selIncR r) (incR r)
  | decR (r : R8) : Row (selDecR r) (decR r)
  | ldRN (r : R8) (n : Byte) : Row (selLdRN r n) (ldRN r n)
  | ldRR (dst src : R8) (not_halt : ¬ (dst = .ind ∧ src = .ind)) : Row (selLdRR dst src) (ldRR dst src)
  | aluR (op : AluOp) (r : R8) : Row (selAluR op r) (aluR op r)
  | aluN (op : AluOp) (n : Byte) : Row (selAluN op n) (aluN op n)
  | acc (y : BitVec 3) : Row (selAcc y) (fun s => withAF (accApply y s.a s.f) s)
  | store (p : APtr) : Row p.selStore p.store
  | load (p : APtr) : Row p.selLoad p.load
  | cb (b1 : Byte) : Row (decodeCb b1) (prefixed b1)
  | prefixCb (b1 : Byte) : Row (.prefixCb b1) (prefixed b1)
  | unrecognised (i : Instr) (h : i ∈ unrecognisedInstrs) : Row i stall

/-- An instruction answers what the operation of its row leaves. -/
theorem Row.exec_eq {i : Instr} {run : State → State} (row : Row i run) (s : State) : exec i s = .next (run s) := by
  cases row with
  | nop | stop | halt | di | ei | jr | jp | jpHl | call | ret | reti | storeSp | ldSpHl | addSp | ldHlSp | prefixCb => rfl
  | jrCc cc d => exact exec_selJrCc cc d s
  | jpCc cc nn => exact exec_selJpCc cc nn s
  | callCc cc nn => exact exec_selCallCc cc nn s
  | rst y => exact exec_selRst y s
  | retCc cc => exact exec_selRetCc cc s
  | ldRpNn r nn => exact exec_selLdRpNn r nn s
  | push r => exact exec_selPush r s
  | pop r => exact exec_selPop r s
  | addHl r => exact exec_selAddHl r s
  | incRp r => exact exec_selIncRp r s
  | decRp r => exact exec_selDecRp r s
  | incR r => exact exec_selIncR r s
  | decR r => exact exec_selDecR r s
  | ldRN r n => exact exec_selLdRN r n s
  | ldRR dst src not_halt => exact exec_selLdRR not_halt s
  | aluR op r => exact exec_selAluR op r s
  | aluN op n => exact exec_selAluN op n s
  | acc y => exact exec_selAcc y s
  | store p => exact exec_selStore p s
  | load p => exact exec_selLoad p s
  | cb b1 => exact exec_decodeCb b1 s
  | unrecognised i h => exact exec_unrecognised h s

end Sys2Proof.Machine
end

section
/-! Proofs of the family `other`, part 3: one walk through the decoder (30_encoding.md R84 to R90). Every window gives an
instruction of some row, written with the bytes of the window; and every instruction stands in a row. -/

namespace Sys2Proof.Machine

open Sys2Proof.Claims

/-- `i` stands in a row of the map and is written with the bytes of the window; for STOP the opcode byte alone is fixed,
since the byte it skips is not part of it (log 26). -/
structure FromWindow (b0 b1 b2 : Byte) (i : Instr) : Prop where
  row : ∃ run, Row i run
  bytes : (i = .stop ∧ b0 = 0x10#8) ∨ encode i <+: [b0, b1, b2]

section
variable {b0 b1 b2 : Byte} {i : Instr} {run : State → State}

theorem FromWindow.op (row : Row i run) (e : encode i = [b0]) : FromWindow b0 b1 b2 i :=
  ⟨⟨run, row⟩, .inr (e ▸ singleton_isPrefix b0 b1 b2)⟩

theorem FromWindow.n (row : Row i run) (e : encode i = opN b0 b1) : FromWindow b0 b1 b2 i :=
  ⟨⟨run, row⟩, .inr (e ▸ opN_isPrefix b0 b1 b2)⟩

theorem FromWindow.nn (row : Row i run) (e : encode i = opNn b0 (compose b2 b1)) : FromWindow b0 b1 b2 i :=
  ⟨⟨run, row⟩, .inr (e ▸ opNn_isPrefix b0 b1 b2)⟩

theorem FromWindow.stop : FromWindow 0x10#8 b1 b2 .stop := ⟨⟨_, .stop⟩, .inl ⟨rfl, rfl⟩⟩

end

/-! ## The opcode bytes of rows that an operand selects (R94) -/

theorem encode_selIncR (y : BitVec 3) : encode (selIncR (r8Of y)) = [opcodeOf 0#2 y 4#3] := by
  revert y; decide

theorem encode_selDecR (y : BitVec 3) : encode (selDecR (r8Of y)) = [opcodeOf 0#2 y 5#3] := by
  revert y; decide

theorem encode_selLdRN (y : BitVec 3) (n : Byte) : encode (selLdRN (r8Of y) n) = opN (opcodeOf 0#2 y 6#3) n := by
  rcases field_cases y with rfl | rfl | rfl | rfl | rfl | rfl | rfl | rfl <;> rfl

theorem encode_selAcc (y : BitVec 3) : encode (selAcc y) = [opcodeOf 0#2 y 7#3] := by
  revert y; decide

theorem encode_selAluR_aluOf (y z : BitVec 3) : encode (selAluR (aluOf y) (r8Of z)) = [opcodeOf 2#2 y z] := by
  have index : BitVec.ofNat 3 (alIndex (aluOf y)) = y := by revert y; decide
  rw [encode_selAluR, index, r8Index_r8Of]

theorem encode_selAluN_aluOf (y : BitVec 3) (n : Byte) :
    encode (selAluN (aluOf y) n) = opN (opcodeOf 3#2 y 6#3) n := by
  rcases field_cases y with rfl | rfl | rfl | rfl | rfl | rfl | rfl | rfl <;> rfl

theorem encode_selRst (y : BitVec 3) : encode (selRst y) = [opcodeOf 3#2 y 7#3] := by
  revert y; decide

/-! ## The walk -/

/-- Block x = 0 (R87), by z and, where the rows of a z differ, by y. -/
theorem fromWindow_decodeX0 (y z : BitVec 3) (b1 b2 : Byte) :
    FromWindow (opcodeOf 0#2 y z) b1 b2 (decodeX0 y z b1 (compose b2 b1)) := by
  rcases field_cases z with rfl | rfl | rfl | rfl | rfl | rfl | rfl | rfl
  · rcases field_cases y with rfl | rfl | rfl | rfl | rfl | rfl | rfl | rfl
    · exact .op .nop rfl
    · exact .nn (.storeSp _) rfl
    · exact .stop
    · exact .n (.jr _) rfl
    · exact .n (.jrCc .nz _) rfl
    · exact .n (.jrCc .z _) rfl
    · exact .n (.jrCc .nc _) rfl
    · exact .n (.jrCc .c _) rfl
  · rcases field_cases y with rfl | rfl | rfl | rfl | rfl | rfl | rfl | rfl
    · exact .nn (.ldRpNn .bc _) rfl
    · exact .op (.addHl .bc) rfl
    · exact .nn (.ldRpNn .de _) rfl
    · exact .op (.addHl .de) rfl
    · exact .nn (.ldRpNn .hl _) rfl
    · exact .op (.addHl .hl) rfl
    · exact .nn (.ldRpNn .sp _) rfl
    · exact .op (.addHl .sp) rfl
  · rcases field_cases y with rfl | rfl | rfl | rfl | rfl | rfl | rfl | rfl
    · exact .op (.store .bc) rfl
    · exact .op (.load .bc) rfl
    · exact .op (.store .de) rfl
    · exact .op (.load .de) rfl
    · exact .op (.store .hlInc) rfl
    · exact .op (.load .hlInc) rfl
    · exact .op (.store .hlDec) rfl
    · exact .op (.load .hlDec) rfl
  · rcases field_cases y with rfl | rfl | rfl | rfl | rfl | rfl | rfl | rfl
    · exact .op (.incRp .bc) rfl
    · exact .op (.decRp .bc) rfl
    · exact .op (.incRp .de) rfl
    · exact .op (.decRp .de) rfl
    · exact .op (.incRp .hl) rfl
    · exact .op (.decRp .hl) rfl
    · exact .op (.incRp .sp) rfl
    · exact .op (.decRp .sp) rfl
  · exact .op (.incR _) (encode_selIncR y)
  · exact .op (.decR _) (encode_selDecR y)
  · exact .n (.ldRN _ _) (encode_selLdRN y b1)
  · exact .op (.acc y) (encode_selAcc y)

/-- Block x = 1 (R88): HALT stands in place of LD (HL),(HL). -/
theorem fromWindow_selLdRR (y z : BitVec 3) (b1 b2 : Byte) :
    FromWindow (opcodeOf 1#2 y z) b1 b2 (selLdRR (r8Of y) (r8Of z)) := by
  have bytes : encode (selLdRR (r8Of y) (r8Of z)) = [opcodeOf 1#2 y z] := by
    rw [encode_selLdRR, r8Index_r8Of, r8Index_r8Of]
  by_cases halts : r8Of y = .ind ∧ r8Of z = .ind
  · obtain ⟨hy, hz⟩ := halts
    rw [hy, hz] at bytes ⊢
    exact .op .halt bytes
  · exact .op (.ldRR _ _ halts) bytes

/-- Block x = 3 (R90) with both absolute loads, by z and y. -/
theorem fromWindow_decodeX3 (y z : BitVec 3) (b1 b2 : Byte) : ∃ i,
    decodeX3 true y z b1 (compose b2 b1) = .ok i ∧ FromWindow (opcodeOf 3#2 y z) b1 b2 i := by
  rcases field_cases z with rfl | rfl | rfl | rfl | rfl | rfl | rfl | rfl
  · rcases field_cases y with rfl | rfl | rfl | rfl | rfl | rfl | rfl | rfl
    · exact ⟨_, rfl, .op (.retCc .nz) rfl⟩
    · exact ⟨_, rfl, .op (.retCc .z) rfl⟩
    · exact ⟨_, rfl, .op (.retCc .nc) rfl⟩
    · exact ⟨_, rfl, .op (.retCc .c) rfl⟩
    · exact ⟨_, rfl, .n (.store (.highN _)) rfl⟩
    · exact ⟨_, rfl, .n (.addSp _) rfl⟩
    · exact ⟨_, rfl, .n (.load (.highN _)) rfl⟩
    · exact ⟨_, rfl, .n (.ldHlSp _) rfl⟩
  · rcases field_cases y with rfl | rfl | rfl | rfl | rfl | rfl | rfl | rfl
    · exact ⟨_, rfl, .op (.pop .bc) rfl⟩
    · exact ⟨_, rfl, .op .ret rfl⟩
    · exact ⟨_, rfl, .op (.pop .de) rfl⟩
    · exact ⟨_, rfl, .op .reti rfl⟩
    · exact ⟨_, rfl, .op (.pop .hl) rfl⟩
    · exact ⟨_, rfl, .op .jpHl rfl⟩
    · exact ⟨_, rfl, .op (.pop .af) rfl⟩
    · exact ⟨_, rfl, .op .ldSpHl rfl⟩
  · rcases field_cases y with rfl | rfl | rfl | rfl | rfl | rfl | rfl | rfl
    · exact ⟨_, rfl, .nn (.jpCc .nz _) rfl⟩
    · exact ⟨_, rfl, .nn (.jpCc .z _) rfl⟩
    · exact ⟨_, rfl, .nn (.jpCc .nc _) rfl⟩
    · exact ⟨_, rfl, .nn (.jpCc .c _) rfl⟩
    · exact ⟨_, rfl, .op (.store .highC) rfl⟩
    · exact ⟨_, rfl, .nn (.store (.abs _)) rfl⟩
    · exact ⟨_, rfl, .op (.load .highC) rfl⟩
    · exact ⟨_, rfl, .nn (.load (.abs _)) rfl⟩
  · rcases field_cases y with rfl | rfl | rfl | rfl | rfl | rfl | rfl | rfl
    · exact ⟨_, rfl, .nn (.jp _) rfl⟩
    · exact ⟨_, rfl, .n (.cb b1) (encode_decodeCb b1)⟩
    · exact ⟨_, rfl, .op (.unrecognised .unrecognisedD3 (by decide)) rfl⟩
    · exact ⟨_, rfl, .op (.unrecognised .unrecognisedDB (by decide)) rfl⟩
    · exact ⟨_, rfl, .op (.unrecognised .unrecognisedE3 (by decide)) rfl⟩
    · exact ⟨_, rfl, .op (.unrecognised .unrecognisedEB (by decide)) rfl⟩
    · exact ⟨_, rfl, .op .di rfl⟩
    · exact ⟨_, rfl, .op .ei rfl⟩
  · rcases field_cases y with rfl | rfl | rfl | rfl | rfl | rfl | rfl | rfl
    · exact ⟨_, rfl, .nn (.callCc .nz _) rfl⟩
    · exact ⟨_, rfl, .nn (.callCc .z _) rfl⟩
    · exact ⟨_, rfl, .nn (.callCc .nc _) rfl⟩
    · exact ⟨_, rfl, .nn (.callCc .c _) rfl⟩
    · exact ⟨_, rfl, .op (.unrecognised .unrecognisedE4 (by decide)) rfl⟩
    · exact ⟨_, rfl, .op (.unrecognised .unrecognisedEC (by decide)) rfl⟩
    · exact ⟨_, rfl, .op (.unrecognised .unrecognisedF4 (by decide)) rfl⟩
    · exact ⟨_, rfl, .op (.unrecognised .unrecognisedFC (by decide)) rfl⟩
  · rcases field_cases y with rfl | rfl | rfl | rfl | rfl | rfl | rfl | rfl
    · exact ⟨_, rfl, .op (.push .bc) rfl⟩
    · exact ⟨_, rfl, .nn (.call _) rfl⟩
    · exact ⟨_, rfl, .op (.push .de) rfl⟩
    · exact ⟨_, rfl, .op (.unrecognised .unrecognisedDD (by decide)) rfl⟩
    · exact ⟨_, rfl, .op (.push .hl) rfl⟩
    · exact ⟨_, rfl, .op (.unrecognised .unrecognisedED (by decide)) rfl⟩
    · exact ⟨_, rfl, .op (.push .af) rfl⟩
    · exact ⟨_, rfl, .op (.unrecognised .unrecognisedFD (by decide)) rfl⟩
  · exact ⟨_, rfl, .n (.aluN _ _) (encode_selAluN_aluOf y b1)⟩
  · exact ⟨_, rfl, .op (.rst y) (encode_selRst y)⟩

/-- A byte is the opcode with its own fields. -/
theorem opcodeOf_fields (b0 : Byte) : opcodeOf (fieldX b0) (fieldY b0) (fieldZ b0) = b0 := by
  revert b0; decide

/-- Every window decodes, to an instruction of some row that is written with the bytes of the window (R84). -/
theorem decodeWindow_fromWindow (b0 b1 b2 : Byte) : ∃ i, decodeWindow b0 b1 b2 = .ok i ∧ FromWindow b0 b1 b2 i := by
  have whole := opcodeOf_fields b0
  unfold decodeWindow decodeWindowWith
  split <;> rename_i block <;> rw [block] at whole
  · exact ⟨_, rfl, (whole ▸ fromWindow_decodeX0 (fieldY b0) (fieldZ b0) b1 b2 :)⟩
  · exact ⟨_, rfl, (whole ▸ fromWindow_selLdRR (fieldY b0) (fieldZ b0) b1 b2 :)⟩
  · exact ⟨_, rfl, .op (.aluR _ _) (whole ▸ encode_selAluR_aluOf (fieldY b0) (fieldZ b0) :)⟩
  · exact (whole ▸ fromWindow_decodeX3 (fieldY b0) (fieldZ b0) b1 b2 :)

theorem fromWindow_of_decodeWindow {b0 b1 b2 : Byte} {i : Instr} (h : decodeWindow b0 b1 b2 = .ok i) :
    FromWindow b0 b1 b2 i := by
  obtain ⟨j, hj, fromWindow⟩ := decodeWindow_fromWindow b0 b1 b2
  cases hj.symm.trans h
  exact fromWindow

/-! ## Every instruction stands in a row -/

/-- Only the row of the 0xCB byte itself is not well-formed (log 20). -/
theorem wellFormed_or_prefixCb (i : Instr) : i.wellFormed = true ∨ ∃ b1, i = .prefixCb b1 := by
  cases i with
  | prefixCb b1 => exact .inr ⟨b1, rfl⟩
  | _ => exact .inl rfl

/-- The rows are all of the map: a well-formed instruction is decoded from its own bytes, and the decoder answers
instructions of rows only. -/
theorem exists_row (i : Instr) : ∃ run, Row i run := by
  rcases wellFormed_or_prefixCb i with wf | ⟨b1, rfl⟩
  · have own := isPrefix_head_of_append (encode_length_le i) []
    exact (fromWindow_of_decodeWindow (decodeWindow_of_encode_isPrefix wf own)).row
  · exact ⟨_, .prefixCb b1⟩

/-- What an instruction answers is what the operation of its row leaves. -/
theorem exec_row {i : Instr} {s s' : State} (h : exec i s = .next s') : ∃ run, Row i run ∧ s' = run s := by
  obtain ⟨run, row⟩ := exists_row i
  cases (row.exec_eq s).symm.trans h
  exact ⟨run, row, rfl⟩

/-! ## The statements about the encoding -/

theorem decodeWindow_cb (b1 b2 : Byte) : decodeWindow 0xCB#8 b1 b2 = .ok (decodeCb b1) := rfl

theorem decodeCb_ne_prefixCb (b1 b : Byte) : decodeCb b1 ≠ .prefixCb b := by
  have wf : (decodeCb b1).wellFormed = true := by revert b1; decide
  intro e
  rw [e] at wf
  cases wf

theorem wellFormed_of_decodeWindow {b0 b1 b2 : Byte} {i : Instr} (h : decodeWindow b0 b1 b2 = .ok i) :
    i.wellFormed = true := by
  rcases wellFormed_or_prefixCb i with wf | ⟨b, rfl⟩
  · exact wf
  · rcases (fromWindow_of_decodeWindow h).bytes with ⟨no_stop, -⟩ | bytes
    · cases no_stop
    · obtain ⟨rfl, -⟩ := window_of_opN bytes
      rw [decodeWindow_cb] at h
      exact absurd (Except.ok.inj h) (decodeCb_ne_prefixCb b1 b)

/-- An instruction decoded from a window begins with the window's opcode byte. -/
theorem opcode_of_decodeWindow {b0 b1 b2 : Byte} {i : Instr} (h : decodeWindow b0 b1 b2 = .ok i) :
    (opcodeBytes i).1 = b0 := by
  rcases (fromWindow_of_decodeWindow h).bytes with ⟨rfl, rfl⟩ | ⟨rest, bytes⟩
  · rfl
  · obtain ⟨op, tail, e, -⟩ := encode_eq_cons i
    rw [e, List.cons_append] at bytes
    obtain ⟨rfl, -⟩ := List.cons.inj bytes
    simp [opcodeBytes, e]

/-- Settles O17: the walk through the decoder gives the bytes, and the opcode byte of STOP is 0x10. -/
theorem encodeOfDecodedWindowIsItsBytes : Obligations.EncodeOfDecodedWindowIsItsBytes := by
  intro b0 b1 b2 i h
  refine ⟨wellFormed_of_decodeWindow h, fun not_stop => ?bytes, ⟨?opcode, ?stop⟩⟩
  case bytes => exact (fromWindow_of_decodeWindow h).bytes.resolve_left fun stops => not_stop stops.1
  case opcode =>
    rintro rfl
    exact (opcode_of_decodeWindow h).symm
  case stop =>
    rintro rfl
    exact (Except.ok.inj h).symm

/-- The model's length of an opcode is that of the table wherever the table has one (R102). -/
theorem opcodeLength_eq_lengthTable (b0 : Byte) (listed : tableEntry lengthTable 0 b0 ≠ 0) :
    opcodeLength b0 = tableEntry lengthTable 0 b0 := by
  revert b0; decide

/-- Settles O19: an encoding is as long as its opcode byte says, and that byte is the window's. -/
theorem lengthsFollowTheLengthTable : Obligations.LengthsFollowTheLengthTable := by
  intro b0 b1 b2 i h listed
  obtain ⟨op, tail, e, len⟩ := encode_eq_cons i
  have opcode : op = b0 := by simpa [opcodeBytes, e] using opcode_of_decodeWindow h
  rw [← opcodeLength_eq_lengthTable b0 listed, ← opcode, ← len, e, List.length_cons]

/-- Settles O18: the decoder computes each of the thirteen windows. -/
theorem sampleEncodingsDecode : Obligations.SampleEncodingsDecode := by
  refine ⟨rfl, rfl, rfl, rfl, rfl, rfl, rfl, rfl, rfl, rfl, rfl, rfl, rfl⟩

end Sys2Proof.Machine
end

section
/-! Proofs of the family `other`, part 4: reset, the uniqueness of canonical memory, the transition and the run. -/

namespace Sys2Proof.Machine

open Sys2Proof.Claims

/-! ## Reset -/

/-- Settles O1: the registers are zero as written, and the empty memory reads 0x00 everywhere. -/
theorem resetStateIsAllZero : Obligations.ResetStateIsAllZero := by
  refine ⟨⟨rfl, rfl, rfl, rfl, rfl, rfl, rfl, rfl⟩, rfl, rfl, rfl, fun a => ?unlisted⟩
  case unlisted => rfl

/-- Settles O2: the empty memory is canonical, and F and t are zero. -/
theorem resetMeetsTheInvariant : Obligations.ResetMeetsTheInvariant := by
  refine ⟨wf_reset, ?flags, ?cycles⟩
  case flags => rfl
  case cycles => exact Nat.zero_le 24

/-! ## Canonical memories that read the same are the same (log 1) -/

theorem lookup_eq_unlisted {m : Memory} {a : Nat} (above : ∀ x ∈ m, a < x.1) :
    Memory.lookup m a = Memory.unlisted := by
  induction m with
  | nil => rfl
  | cons x m ih =>
    have later : x.1 ≠ a := Nat.ne_of_gt (above x List.mem_cons_self)
    rw [Memory.lookup, if_neg later]
    exact ih fun y hy => above y (List.mem_cons_of_mem _ hy)

theorem lookup_cons_self (k : Nat) (v : Byte) (m : Memory) : Memory.lookup ((k, v) :: m) k = v := if_pos rfl

theorem lookup_cons_ne {k a : Nat} (v : Byte) (m : Memory) (h : a ≠ k) :
    Memory.lookup ((k, v) :: m) a = Memory.lookup m a := if_neg (Ne.symm h)

theorem wf_cons_iff {k : Nat} {v : Byte} {m : Memory} : Memory.wf ((k, v) :: m) ↔
    (∀ x ∈ m, k < x.1) ∧ k < 65536 ∧ v ≠ Memory.unlisted ∧ Memory.wf m := by
  simp only [Memory.wf, List.pairwise_cons, List.forall_mem_cons]
  tauto

/-- The first key of a canonical memory is no later than that of one that reads the same: its byte is listed there. -/
theorem head_key_le {k k' : Nat} {v v' : Byte} {m m' : Memory} (h : Memory.wf ((k, v) :: m))
    (h' : Memory.wf ((k', v') :: m'))
    (same : ∀ a < 65536, Memory.lookup ((k', v') :: m') a = Memory.lookup ((k, v) :: m) a) : k' ≤ k := by
  obtain ⟨-, addr, listed, -⟩ := wf_cons_iff.1 h
  obtain ⟨rising', -⟩ := wf_cons_iff.1 h'
  by_contra later
  have lt : k < k' := Nat.lt_of_not_le later
  have absent : Memory.lookup ((k', v') :: m') k = Memory.unlisted :=
    lookup_eq_unlisted (List.forall_mem_cons.2 ⟨lt, fun x hx => Nat.lt_trans lt (rising' x hx)⟩)
  rw [same k addr, lookup_cons_self] at absent
  exact listed absent

/-- A canonical memory is not empty where it lists a byte. -/
theorem not_reads_unlisted {k : Nat} {v : Byte} {m : Memory} (h : Memory.wf ((k, v) :: m)) :
    ¬ ∀ a < 65536, Memory.lookup ((k, v) :: m) a = Memory.unlisted := by
  obtain ⟨-, addr, listed, -⟩ := wf_cons_iff.1 h
  intro empty
  have head := empty k addr
  rw [lookup_cons_self] at head
  exact listed head

theorem eq_of_wf_of_lookup_eq {m m' : Memory} (h : Memory.wf m) (h' : Memory.wf m')
    (same : ∀ a < 65536, Memory.lookup m' a = Memory.lookup m a) : m' = m := by
  induction m generalizing m' with
  | nil =>
    cases m' with
    | nil => rfl
    | cons x' m' => exact absurd same (not_reads_unlisted h')
  | cons x m ih =>
    cases m' with
    | nil => exact absurd (fun a ha => (same a ha).symm) (not_reads_unlisted h)
    | cons x' m' =>
      obtain ⟨k, v⟩ := x
      obtain ⟨k', v'⟩ := x'
      obtain rfl : k = k' :=
        Nat.le_antisymm (head_key_le h' h fun a ha => (same a ha).symm) (head_key_le h h' same)
      obtain ⟨rising, addr, -, tail⟩ := wf_cons_iff.1 h
      obtain ⟨rising', -, -, tail'⟩ := wf_cons_iff.1 h'
      have value : v' = v := by simpa only [lookup_cons_self] using same k addr
      have rest : ∀ a < 65536, Memory.lookup m' a = Memory.lookup m a := by
        intro a ha
        by_cases head : a = k
        · rw [head, lookup_eq_unlisted rising, lookup_eq_unlisted rising']
        · simpa only [lookup_cons_ne _ _ head] using same a ha
      rw [value, ih tail tail' rest]

/-- Settles O6: an address below 65536 is a word, so the two memories agree at every key a canonical form can have. -/
theorem canonicalMemoryIsDeterminedByItsBytes : Obligations.CanonicalMemoryIsDeterminedByItsBytes := by
  intro s s' ok ok' same
  refine eq_of_wf_of_lookup_eq ok ok' fun a ha => ?_
  simpa [memRead, Nat.mod_eq_of_lt ha] using same (BitVec.ofNat 16 a)

/-! ## One transition -/

/-- At t > 0 a transition is a Tick (00_scope.md R8, log 17). -/
theorem step_of_pos {s : State} (h : s.t ≠ 0) : step s = .next (tick s) := if_neg h

/-- At t = 0 a transition is Execute on the window at PC (00_scope.md R8, log 17). -/
theorem step_of_zero {s : State} (h : s.t = 0) :
    step s = execute (memRead s.pc s) (memRead (s.pc + 1#16) s) (memRead (s.pc + 2#16) s) 0#8 s := if_pos h

theorem execute_of_decodeWindow {b0 b1 b2 : Byte} {i : Instr} (h : decodeWindow b0 b1 b2 = .ok i) (b3 : Byte)
    (s : State) : execute b0 b1 b2 b3 s = exec i s := by
  simp only [execute, h]

/-- Settles O8: a Step executes the decoded window, a Tick counts down. -/
theorem stepRunsTheDecodedInstruction : Obligations.StepRunsTheDecodedInstruction := by
  refine ⟨fun s i zero decoded => ?_, fun s pos => step_of_pos (Nat.ne_of_gt pos)⟩
  rw [step_of_zero zero, execute_of_decodeWindow decoded]

/-- Bytes that lie in memory from PC on head the window at PC. -/
theorem isPrefix_window {s : State} {bytes : List Byte} (short : bytes.length ≤ 3)
    (lie : ∀ k : Nat, k < bytes.length → memRead (s.pc + BitVec.ofNat 16 k) s = bytes.getD k 0#8) :
    bytes <+: [memRead s.pc s, memRead (s.pc + 1#16) s, memRead (s.pc + 2#16) s] := by
  have first : 0 < bytes.length → memRead s.pc s = bytes.getD 0 0#8 := by simpa using lie 0
  have second : 1 < bytes.length → memRead (s.pc + 1#16) s = bytes.getD 1 0#8 := lie 1
  have third : 2 < bytes.length → memRead (s.pc + 2#16) s = bytes.getD 2 0#8 := lie 2
  match bytes, short with
  | [], _ => exact List.nil_prefix
  | [x], _ => simp_all
  | [x, y], _ => simp_all
  | [x, y, z], _ => simp_all

/-- Settles O9: the bytes at PC head the window, and the decoder reads the instruction back from any such window. -/
theorem stepRunsTheBytesAtTheProgramCounter : Obligations.StepRunsTheBytesAtTheProgramCounter := by
  intro s i wf zero lie
  have decoded := decodeWindow_of_encode_isPrefix wf (isPrefix_window (encode_length_le i) lie)
  rw [step_of_zero zero, execute_of_decodeWindow decoded]

/-- Three bytes stored from an address on are read back there: the addresses differ modulo 65536. -/
theorem memRead_storeBytes_three (b0 b1 b2 : Byte) (addr : Word) (s : State) :
    memRead addr (storeBytes [b0, b1, b2] addr s) = b0 ∧
      memRead (addr + 1#16) (storeBytes [b0, b1, b2] addr s) = b1 ∧
      memRead (addr + 2#16) (storeBytes [b0, b1, b2] addr s) = b2 := by
  have next : addr + 1#16 + 1#16 = addr + 2#16 := by bv_omega
  have ne1 : addr ≠ addr + 1#16 := by bv_omega
  have ne2 : addr ≠ addr + 2#16 := by bv_omega
  have ne3 : addr + 1#16 ≠ addr + 2#16 := by bv_omega
  simp only [storeBytes, next, memRead_memWrite]
  simp [ne1, ne2, ne3]

theorem storeBytes_pc (bytes : List Byte) (addr : Word) (s : State) : (storeBytes bytes addr s).pc = s.pc := by
  induction bytes generalizing addr s with
  | nil => rfl
  | cons v bytes ih => exact ih _ _

theorem storeBytes_t (bytes : List Byte) (addr : Word) (s : State) : (storeBytes bytes addr s).t = s.t := by
  induction bytes generalizing addr s with
  | nil => rfl
  | cons v bytes ih => exact ih _ _

/-- Settles O10: the word's three bytes are read back as the window at PC, which decodes to the word's row. -/
theorem stepRunsTheFetchWord : Obligations.StepRunsTheFetchWord := by
  intro s nbits w i word
  obtain ⟨b0, b1, b2, bytes⟩ := tableBytes_three nbits w
  have decoded := decodeTableWord_window bytes word
  obtain ⟨r0, r1, r2⟩ := memRead_storeBytes_three b0 b1 b2 s.pc { s with t := 0 }
  have zero : (s.withFetchWord nbits w).t = 0 := storeBytes_t _ _ _
  have pc : (s.withFetchWord nbits w).pc = s.pc := storeBytes_pc _ _ _
  rw [step_of_zero zero, pc]
  simp only [State.withFetchWord, bytes, r0, r1, r2]
  exact execute_of_decodeWindow decoded _ _

/-! ## Runs -/

/-- Settles O11, by induction on k: each of the first transitions is a Tick. -/
theorem ticksRunDownBeforeTheNextStep : Obligations.TicksRunDownBeforeTheNextStep := by
  intro s k
  induction k generalizing s with
  | zero => intro _; rfl
  | succ k ih =>
    intro le
    have pos : s.t ≠ 0 := by omega
    have later : k ≤ (tick s).t := by rw [tick_t]; omega
    have counted : s.t - 1 - k = s.t - (k + 1) := by omega
    rw [run_succ (step_of_pos pos), ih (tick s) later]
    simp only [tick, counted]

/-- A state from which a transition answers that state stays there. -/
theorem run_of_step_self {s : State} (h : step s = .next s) (k : Nat) : Host.Core.run core k s = .next s := by
  induction k with
  | zero => rfl
  | succ k ih => rw [run_succ h, ih]

/-- An unrecognised opcode byte decodes to an unrecognised instruction, whatever follows it. -/
theorem decodeWindow_unrecognised {b0 : Byte} (h : b0 ∈ unrecognisedOpcodes) (b1 b2 : Byte) :
    ∃ i ∈ unrecognisedInstrs, decodeWindow b0 b1 b2 = .ok i := by
  simp only [unrecognisedOpcodes, List.mem_cons, List.not_mem_nil, or_false] at h
  rcases h with rfl | rfl | rfl | rfl | rfl | rfl | rfl | rfl | rfl | rfl | rfl <;> exact ⟨_, by decide, rfl⟩

theorem execute_unrecognised {b0 : Byte} (h : b0 ∈ unrecognisedOpcodes) (b1 b2 b3 : Byte) (s : State) :
    execute b0 b1 b2 b3 s = .next s := by
  obtain ⟨i, unrecognised, decoded⟩ := decodeWindow_unrecognised h b1 b2
  rw [execute_of_decodeWindow decoded, exec_unrecognised unrecognised]

/-- Settles O12: the transition at such an opcode answers the state itself, so no number of them leaves it. -/
theorem unrecognisedOpcodeStallsForEver : Obligations.UnrecognisedOpcodeStallsForEver := by
  intro s k zero opcode
  exact run_of_step_self (by rw [step_of_zero zero, execute_unrecognised opcode]) k

/-- Settles O60: each of the eleven runs `stall`, the identity. -/
theorem unrecognisedInstructionsChangeNothing : Obligations.UnrecognisedInstructionsChangeNothing :=
  fun s _ h => exec_unrecognised h s

/-- Settles O7: every instruction runs the operation of its row, every window decodes, and a transition is a Tick or
executes a window. -/
theorem everyTransitionHasANextState : Obligations.EveryTransitionHasANextState := by
  have execs (i : Instr) (s : State) : ∃ s', exec i s = .next s' := by
    obtain ⟨run, row⟩ := exists_row i
    exact ⟨run s, row.exec_eq s⟩
  have executes (b0 b1 b2 b3 : Byte) (s : State) : ∃ s', execute b0 b1 b2 b3 s = .next s' := by
    obtain ⟨i, decoded, -⟩ := decodeWindow_fromWindow b0 b1 b2
    rw [execute_of_decodeWindow decoded]
    exact execs i s
  refine ⟨execs, executes, fun s => ?step⟩
  case step =>
    by_cases zero : s.t = 0
    · rw [step_of_zero zero]
      exact executes _ _ _ _ s
    · exact ⟨_, step_of_pos zero⟩

/-! ## External writers (20_memory.md R66) -/

/-- One opportunity of an external writer leaves every register and t. -/
theorem externalWriteAt_frame (addr : Word) (s : State) (m : Memory) (n : Nat) :
    { externalWriteAt addr s with mem := m, extDraws := n } = { s with mem := m, extDraws := n } := by
  unfold externalWriteAt
  split <;> rfl

theorem externalWrites_frame (addrs : List Word) (s : State) (m : Memory) (n : Nat) :
    { externalWrites addrs s with mem := m, extDraws := n } = { s with mem := m, extDraws := n } := by
  induction addrs generalizing s with
  | nil => rfl
  | cons addr addrs ih => exact (ih _).trans (externalWriteAt_frame addr s m n)

theorem memRead_externalWriteAt_ne {addr a : Word} (h : a ≠ addr) (s : State) :
    memRead a (externalWriteAt addr s) = memRead a s := by
  unfold externalWriteAt
  split
  · exact memRead_memWrite_ne _ { s with extDraws := s.extDraws + 1 } h
  · rfl

theorem memRead_externalWrites {addrs : List Word} {a : Word} (h : a ∉ addrs) (s : State) :
    memRead a (externalWrites addrs s) = memRead a s := by
  induction addrs generalizing s with
  | nil => rfl
  | cons addr addrs ih =>
    obtain ⟨ne, rest⟩ : a ≠ addr ∧ a ∉ addrs := by simpa using h
    exact (ih rest _).trans (memRead_externalWriteAt_ne ne s)

/-- Settles O14, by induction on the addresses, for either answer of the external writer at each of them. -/
theorem externalWritesTouchOnlyTheirAddresses : Obligations.ExternalWritesTouchOnlyTheirAddresses :=
  fun addrs s => ⟨externalWrites_frame addrs s s.mem s.extDraws, fun _ h => memRead_externalWrites h s⟩

end Sys2Proof.Machine
end

section
/-! Proofs of the family `other`, part 5: what an instruction can do to memory and to F, said once over the rows of the
map; the invariants of memory and F and their frames follow. -/

namespace Sys2Proof.Machine

open Sys2Proof.Claims

/-! ## CB instructions by their sub-opcode -/

/-- The four operations a sub-opcode can run (R85). -/
theorem prefixed_cases (b1 : Byte) (s : State) :
    (fieldX b1 = 0#2 ∧ prefixed b1 s = rotateR (rotOf (fieldY b1)) (r8Of (fieldZ b1)) s) ∨
    (fieldX b1 = 1#2 ∧ prefixed b1 s = bitR (fieldY b1).toFin (r8Of (fieldZ b1)) s) ∨
    (fieldX b1 = 2#2 ∧ prefixed b1 s = resR (fieldY b1).toFin (r8Of (fieldZ b1)) s) ∨
    (fieldX b1 = 3#2 ∧ prefixed b1 s = setR (fieldY b1).toFin (r8Of (fieldZ b1)) s) := by
  unfold prefixed
  split <;> simp_all

theorem opcodeBytes_decodeCb (b1 : Byte) : opcodeBytes (decodeCb b1) = (0xCB#8, b1) := by
  simp [opcodeBytes, encode_decodeCb]

theorem opcodeBytes_prefixCb (b1 : Byte) : opcodeBytes (.prefixCb b1) = (0xCB#8, b1) := rfl

/-! ## The opcode byte does not depend on an immediate

The tables of the statements read the opcode byte; with the immediate out of the way they compute. -/

theorem opcode_jrD (d : Byte) : (opcodeBytes (.jrD d)).1 = (opcodeBytes (.jrD 0#8)).1 := rfl
theorem opcode_jpNn (nn : Word) : (opcodeBytes (.jpNn nn)).1 = (opcodeBytes (.jpNn 0#16)).1 := rfl
theorem opcode_callNn (nn : Word) : (opcodeBytes (.callNn nn)).1 = (opcodeBytes (.callNn 0#16)).1 := rfl
theorem opcode_ldIndNnSp (nn : Word) : (opcodeBytes (.ldIndNnSp nn)).1 = (opcodeBytes (.ldIndNnSp 0#16)).1 := rfl
theorem opcode_addSpD (d : Byte) : (opcodeBytes (.addSpD d)).1 = (opcodeBytes (.addSpD 0#8)).1 := rfl
theorem opcode_ldHlSpD (d : Byte) : (opcodeBytes (.ldHlSpD d)).1 = (opcodeBytes (.ldHlSpD 0#8)).1 := rfl


theorem opcode_selJrCc (cc : Cc) (d : Byte) :
    (opcodeBytes (selJrCc cc d)).1 = (opcodeBytes (selJrCc cc 0#8)).1 := by cases cc <;> rfl

theorem opcode_selJpCc (cc : Cc) (nn : Word) :
    (opcodeBytes (selJpCc cc nn)).1 = (opcodeBytes (selJpCc cc 0#16)).1 := by cases cc <;> rfl

theorem opcode_selCallCc (cc : Cc) (nn : Word) :
    (opcodeBytes (selCallCc cc nn)).1 = (opcodeBytes (selCallCc cc 0#16)).1 := by cases cc <;> rfl

theorem opcode_selLdRpNn (r : Rp) (nn : Word) :
    (opcodeBytes (selLdRpNn r nn)).1 = (opcodeBytes (selLdRpNn r 0#16)).1 := by cases r <;> rfl

theorem opcode_selLdRN (r : R8) (n : Byte) :
    (opcodeBytes (selLdRN r n)).1 = (opcodeBytes (selLdRN r 0#8)).1 := by cases r <;> rfl

theorem opcode_selAluN (op : AluOp) (n : Byte) :
    (opcodeBytes (selAluN op n)).1 = (opcodeBytes (selAluN op 0#8)).1 := by cases op <;> rfl

/-- The same form of address with an immediate of zero. -/
def APtr.blank : APtr → APtr
  | .highN _ => .highN 0#8
  | .abs _ => .abs 0#16
  | p => p

theorem opcode_selStore (p : APtr) : (opcodeBytes p.selStore).1 = (opcodeBytes p.blank.selStore).1 := by
  cases p <;> rfl

theorem opcode_selLoad (p : APtr) : (opcodeBytes p.selLoad).1 = (opcodeBytes p.blank.selLoad).1 := by
  cases p <;> rfl

section
variable {i j : Instr} (same : (opcodeBytes i).1 = (opcodeBytes j).1) (plain : (opcodeBytes j).1 ≠ 0xCB#8)
include same plain

theorem writesFlags_congr : writesFlags i = writesFlags j := by
  simp [writesFlags, same, plain]

theorem destinations_congr : destinations i = destinations j := by
  simp [destinations, same, plain]

end

theorem writesSP_congr {i j : Instr} (same : (opcodeBytes i).1 = (opcodeBytes j).1) : writesSP i = writesSP j := by
  simp only [writesSP, same]

theorem transfers_congr {i j : Instr} (same : (opcodeBytes i).1 = (opcodeBytes j).1) :
    transfers i = transfers j := by
  simp only [transfers, same]

/-! ## Memory: nothing, one byte, or one word is stored -/

/-- `Stores s addrs m`: from the memory of `s`, a store to exactly the addresses `addrs` leaves the memory `m`. -/
inductive Stores (s : State) : List Word → Memory → Prop
  | nothing : Stores s [] s.mem
  | byte (a : Word) (v : Byte) : Stores s [a] (memWrite a v s).mem
  | word (a v : Word) : Stores s [a, a + 1#16] (memWrite16 a v s).mem

section
variable {s : State} {addrs addrs' : List Word} {m m' : Memory}

theorem Stores.wf (h : Stores s addrs m) (ok : Memory.wf s.mem) : Memory.wf m := by
  cases h with
  | nothing => exact ok
  | byte a v => exact wf_memWrite a v ok
  | word a v => exact wf_memWrite16 a v ok

theorem Stores.memRead_eq {s' : State} (h : Stores s addrs s'.mem) {a : Word} (outside : a ∉ addrs) :
    memRead a s' = memRead a s := by
  generalize mem : s'.mem = m at h
  cases h with
  | nothing => exact memRead_congr mem a
  | byte b v =>
    rw [memRead_congr mem, memRead_memWrite_ne v s (by simpa using outside)]
  | word b v =>
    obtain ⟨low, high⟩ : a ≠ b ∧ a ≠ b + 1#16 := by simpa using outside
    rw [memRead_congr mem, memRead_memWrite16, if_neg high, if_neg low]

theorem Stores.mem_eq (h : Stores s addrs m) (nothing : addrs = []) : m = s.mem := by
  cases h with
  | nothing => rfl
  | byte | word => cases nothing

theorem Stores.of_eq (h : Stores s addrs m) (ea : addrs' = addrs) (em : m' = m) : Stores s addrs' m' := by
  rw [ea, em]; exact h

end

/-- The bytes a write to `r[i]` stores: the byte at HL for index 6. -/
def storedByR (r : R8) (s : State) : List Word := if r = .ind then [pairHL s] else []

/-- A write to `r[i]` beside a new F. -/
theorem stores_writeR (r : R8) (v f : Byte) (s : State) :
    Stores s (storedByR r s) (writeR r v { s with f := f }).mem := by
  cases r with
  | ind => exact .byte (pairHL s) v
  | _ => exact .nothing

theorem stores_push16 (v : Word) (s : State) : Stores s (pushSlot s) (push16 v s).mem := .word (s.sp - 2#16) v

/-- A CB instruction stores to its operand, unless it is BIT, which is block x = 1 of the CB map. -/
theorem stores_prefixed (b1 : Byte) (s : State) :
    Stores s (if fieldX b1 = 1#2 then [] else storedByR (r8Of (fieldZ b1)) s) (prefixed b1 s).mem := by
  rcases prefixed_cases b1 s with ⟨hx, e⟩ | ⟨hx, e⟩ | ⟨hx, e⟩ | ⟨hx, e⟩ <;> rw [e, hx]
  · exact stores_writeR (r8Of (fieldZ b1)) _ _ s
  · exact .nothing
  · exact stores_writeR (r8Of (fieldZ b1)) _ s.f s
  · exact stores_writeR (r8Of (fieldZ b1)) _ s.f s

theorem storedTo_prefixCb (b1 : Byte) (s : State) :
    storedTo (.prefixCb b1) s = if fieldX b1 = 1#2 then [] else storedByR (r8Of (fieldZ b1)) s := by
  have unfolded : storedTo (.prefixCb b1) s = if fieldX b1 ≠ 1#2 ∧ fieldZ b1 = 6#3 then [pairHL s] else [] := rfl
  simp only [unfolded, storedByR, r8Of_eq_ind_iff]
  by_cases hx : fieldX b1 = 1#2 <;> simp [hx]

theorem storedTo_selRot (op : RotOp) (z : R8) (s : State) : storedTo (selRot op z) s = storedByR z s := by
  cases op <;> cases z <;> rfl

theorem storedTo_selBit (i : Fin 8) (z : R8) (s : State) : storedTo (selBit i z) s = [] := by
  fin_cases i <;> cases z <;> rfl

theorem storedTo_selRes (i : Fin 8) (z : R8) (s : State) : storedTo (selRes i z) s = storedByR z s := by
  fin_cases i <;> cases z <;> rfl

theorem storedTo_selSet (i : Fin 8) (z : R8) (s : State) : storedTo (selSet i z) s = storedByR z s := by
  fin_cases i <;> cases z <;> rfl

theorem storedTo_decodeCb (b1 : Byte) (s : State) :
    storedTo (decodeCb b1) s = if fieldX b1 = 1#2 then [] else storedByR (r8Of (fieldZ b1)) s := by
  unfold decodeCb
  split <;> rename_i hx <;> rw [hx]
  · exact storedTo_selRot _ _ s
  · exact storedTo_selBit _ _ s
  · exact storedTo_selRes _ _ s
  · exact storedTo_selSet _ _ s

theorem storedTo_jrD (d : Byte) (s : State) : storedTo (.jrD d) s = [] := by
  delta storedTo; rw [opcode_jrD]; rfl

theorem storedTo_jpNn (nn : Word) (s : State) : storedTo (.jpNn nn) s = [] := by
  delta storedTo; rw [opcode_jpNn]; rfl

theorem storedTo_callNn (nn : Word) (s : State) : storedTo (.callNn nn) s = pushSlot s := by
  delta storedTo; rw [opcode_callNn]; rfl

theorem storedTo_addSpD (d : Byte) (s : State) : storedTo (.addSpD d) s = [] := by
  delta storedTo; rw [opcode_addSpD]; rfl

theorem storedTo_ldHlSpD (d : Byte) (s : State) : storedTo (.ldHlSpD d) s = [] := by
  delta storedTo; rw [opcode_ldHlSpD]; rfl

theorem storedTo_selJrCc (cc : Cc) (d : Byte) (s : State) : storedTo (selJrCc cc d) s = [] := by
  cases cc <;> (delta storedTo; rw [opcode_selJrCc]; rfl)

theorem storedTo_selJpCc (cc : Cc) (nn : Word) (s : State) : storedTo (selJpCc cc nn) s = [] := by
  cases cc <;> (delta storedTo; rw [opcode_selJpCc]; rfl)

theorem storedTo_selLdRpNn (r : Rp) (nn : Word) (s : State) : storedTo (selLdRpNn r nn) s = [] := by
  cases r <;> (delta storedTo; rw [opcode_selLdRpNn]; rfl)

theorem storedTo_selLdRN (r : R8) (n : Byte) (s : State) : storedTo (selLdRN r n) s = storedByR r s := by
  cases r <;> (delta storedTo; rw [opcode_selLdRN]; rfl)

theorem storedTo_selAluN (op : AluOp) (n : Byte) (s : State) : storedTo (selAluN op n) s = [] := by
  cases op <;> (delta storedTo; rw [opcode_selAluN]; rfl)

theorem storedTo_selLoad (p : APtr) (s : State) : storedTo p.selLoad s = [] := by
  cases p <;> (delta storedTo; rw [opcode_selLoad]; dsimp only [APtr.blank]; rfl)

/-- CALL cc stores to the slot below SP when its condition holds. -/
theorem storedTo_selCallCc (cc : Cc) (nn : Word) (s : State) :
    storedTo (selCallCc cc nn) s = if condition cc s = true then pushSlot s else [] := by
  have unfolded : ∃ y < 4, storedTo (selCallCc cc nn) s =
      if y < 4 ∧ condition cc s = true then pushSlot s else [] := by
    delta storedTo
    rw [opcode_selCallCc]
    cases cc with
    | nz => exact ⟨0, by decide, rfl⟩
    | z => exact ⟨1, by decide, rfl⟩
    | nc => exact ⟨2, by decide, rfl⟩
    | c => exact ⟨3, by decide, rfl⟩
  obtain ⟨y, lt, e⟩ := unfolded
  simp only [e, lt, true_and]

theorem stores_store (p : APtr) (s : State) : Stores s [p.addr s] (p.store s).mem := by
  cases p with
  | _ => exact .byte _ s.a

/-- Everything an instruction can do to memory. -/
theorem row_stores {i : Instr} {run : State → State} (row : Row i run) (s : State) :
    Stores s (storedTo i s) (run s).mem := by
  cases row with
  | nop | stop | halt | di | ei | jpHl | ret | reti | ldSpHl => exact .nothing
  | jr d => exact Stores.nothing.of_eq (storedTo_jrD d s) rfl
  | jp nn => exact Stores.nothing.of_eq (storedTo_jpNn nn s) rfl
  | addSp d => exact Stores.nothing.of_eq (storedTo_addSpD d s) rfl
  | ldHlSp d => exact Stores.nothing.of_eq (storedTo_ldHlSpD d s) rfl
  | jrCc cc d => exact Stores.nothing.of_eq (storedTo_selJrCc cc d s) (by unfold jrCc; split <;> rfl)
  | jpCc cc nn => exact Stores.nothing.of_eq (storedTo_selJpCc cc nn s) (by unfold jpCc; split <;> rfl)
  | retCc cc => exact Stores.nothing.of_eq (by cases cc <;> rfl) (by unfold retCc; split <;> rfl)
  | call nn => exact (stores_push16 (s.pc + 3#16) s).of_eq (storedTo_callNn nn s) rfl
  | callCc cc nn =>
    rw [storedTo_selCallCc]
    unfold callCc
    split
    · exact stores_push16 (s.pc + 3#16) s
    · exact .nothing
  | rst y =>
    refine (stores_push16 (s.pc + 1#16) s).of_eq ?_ rfl
    rcases field_cases y with rfl | rfl | rfl | rfl | rfl | rfl | rfl | rfl <;> rfl
  | storeSp nn => exact .word nn s.sp
  | push r => exact (stores_push16 (readRf r s) s).of_eq (by cases r <;> rfl) rfl
  | ldRpNn r nn => exact Stores.nothing.of_eq (storedTo_selLdRpNn r nn s) (writeRp_mem r nn s)
  | pop r => exact Stores.nothing.of_eq (by cases r <;> rfl) (writeRf_mem r _ (popState s))
  | addHl r => exact Stores.nothing.of_eq (by cases r <;> rfl) rfl
  | incRp r => exact Stores.nothing.of_eq (by cases r <;> rfl) (writeRp_mem r _ s)
  | decRp r => exact Stores.nothing.of_eq (by cases r <;> rfl) (writeRp_mem r _ s)
  | incR r => exact (stores_writeR r _ _ s).of_eq (by cases r <;> rfl) rfl
  | decR r => exact (stores_writeR r _ _ s).of_eq (by cases r <;> rfl) rfl
  | ldRN r n => exact (stores_writeR r n s.f s).of_eq (storedTo_selLdRN r n s) rfl
  | ldRR dst src not_halt =>
    refine (stores_writeR dst (readR src s) s.f s).of_eq ?_ rfl
    cases dst with
    | ind => cases src with
      | ind => exact absurd ⟨rfl, rfl⟩ not_halt
      | _ => rfl
    | _ => cases src <;> rfl
  | aluR op r => exact Stores.nothing.of_eq (by cases op <;> cases r <;> rfl) rfl
  | aluN op n => exact Stores.nothing.of_eq (storedTo_selAluN op n s) rfl
  | acc y =>
    refine Stores.nothing.of_eq ?_ rfl
    rcases field_cases y with rfl | rfl | rfl | rfl | rfl | rfl | rfl | rfl <;> rfl
  | store p => exact (stores_store p s).of_eq (by cases p <;> rfl) rfl
  | load p => exact Stores.nothing.of_eq (storedTo_selLoad p s) (by cases p <;> rfl)
  | cb b1 => exact (stores_prefixed b1 s).of_eq (storedTo_decodeCb b1 s) rfl
  | prefixCb b1 => exact (stores_prefixed b1 s).of_eq (storedTo_prefixCb b1 s) rfl
  | unrecognised i h =>
    refine Stores.nothing.of_eq ?_ rfl
    simp only [unrecognisedInstrs, List.mem_cons, List.not_mem_nil, or_false] at h
    rcases h with rfl | rfl | rfl | rfl | rfl | rfl | rfl | rfl | rfl | rfl | rfl <;> rfl

theorem exec_stores {i : Instr} {s s' : State} (h : exec i s = .next s') : Stores s (storedTo i s) s'.mem := by
  obtain ⟨run, row, rfl⟩ := exec_row h
  exact row_stores row s

/-- Settles O24: what an instruction stores is one of three writes, each with its own addresses. -/
theorem memoryChangesOnlyWhereStored : Obligations.MemoryChangesOnlyWhereStored := by
  intro i s s' h
  have stores := exec_stores h
  exact ⟨fun a outside => stores.memRead_eq outside, stores.mem_eq⟩

/-- Everything a transition can be, with no external writer: a Tick, the instruction at PC, or nothing. -/
theorem step_cases {s s' : State} (h : step s = .next s') :
    s' = tick s ∨ (∃ i, exec i s = .next s') ∨ s' = s := by
  rcases coreStep_cases h with ⟨-, ticks⟩ | ⟨-, i, -, runs⟩ | ⟨-, stalls⟩
  · exact .inl ticks
  · exact .inr (.inl ⟨i, runs⟩)
  · exact .inr (.inr stalls)

/-- Settles O3: every store an instruction can make keeps the canonical form. -/
theorem stepKeepsMemoryCanonical : Obligations.StepKeepsMemoryCanonical := by
  intro s s' ok h
  rcases step_cases h with rfl | ⟨i, runs⟩ | rfl
  · exact ok
  · exact (exec_stores runs).wf ok
  · exact ok

/-! ## F: unchanged, or written with a zero low nibble -/

/-- F after POP: the pair AF alone is a destination of it. -/
theorem popRf_f_cases (r : Rf) (s : State) :
    (popRf r s).f = s.f ∨ (r = .af ∧ (popRf r s).f.extractLsb' 0 4 = 0#4) := by
  cases r with
  | af => exact .inr ⟨rfl, popMask_low_nibble _⟩
  | _ => exact .inl rfl

/-- F after a CB instruction: the rotates and BIT, blocks 0 and 1 of the CB map, write it. -/
theorem prefixed_f_cases (b1 : Byte) (s : State) :
    (prefixed b1 s).f = s.f ∨ ((fieldX b1).toNat ≤ 1 ∧ (prefixed b1 s).f.extractLsb' 0 4 = 0#4) := by
  rcases prefixed_cases b1 s with ⟨hx, e⟩ | ⟨hx, e⟩ | ⟨hx, e⟩ | ⟨hx, e⟩ <;> rw [e, hx]
  · refine .inr ⟨by decide, ?_⟩
    simp [rotateR, finishCb]
  · refine .inr ⟨by decide, ?_⟩
    simp [bitR, finishCb]
  · exact .inl (writeR_f _ _ s)
  · exact .inl (writeR_f _ _ s)

theorem accApply_low_nibble (y : BitVec 3) (a f : Byte) : (accApply y a f).2.extractLsb' 0 4 = 0#4 := by
  rcases field_cases y with rfl | rfl | rfl | rfl | rfl | rfl | rfl | rfl <;> exact flags_low_nibble _ _ _ _

theorem writesFlags_cb {i : Instr} {b1 : Byte} (e : opcodeBytes i = (0xCB#8, b1)) :
    writesFlags i = decide ((fieldX b1).toNat ≤ 1) := by
  simp [writesFlags, e]

theorem writesFlags_addSpD (d : Byte) : writesFlags (.addSpD d) = true := by
  rw [writesFlags_congr (opcode_addSpD d) (by decide)]; rfl

theorem writesFlags_ldHlSpD (d : Byte) : writesFlags (.ldHlSpD d) = true := by
  rw [writesFlags_congr (opcode_ldHlSpD d) (by decide)]; rfl

theorem writesFlags_selAluN (op : AluOp) (n : Byte) : writesFlags (selAluN op n) = true := by
  rw [writesFlags_congr (opcode_selAluN op n) (by cases op <;> decide)]
  cases op <;> rfl

/-- Everything an instruction can do to F (10_state.md R24, R25). -/
theorem row_f_cases {i : Instr} {run : State → State} (row : Row i run) (s : State) :
    (run s).f = s.f ∨ (writesFlags i = true ∧ (run s).f.extractLsb' 0 4 = 0#4) := by
  cases row with
  | nop | stop | halt | di | ei | jr | jp | jpHl | call | rst | ret | reti | storeSp | ldSpHl | push | unrecognised =>
    exact .inl rfl
  | jrCc cc d => unfold jrCc; split <;> exact .inl rfl
  | jpCc cc nn => unfold jpCc; split <;> exact .inl rfl
  | callCc cc nn => unfold callCc; split <;> exact .inl rfl
  | retCc cc => unfold retCc; split <;> exact .inl rfl
  | ldRpNn r nn => exact .inl (writeRp_f r nn s)
  | incRp r => exact .inl (writeRp_f r _ s)
  | decRp r => exact .inl (writeRp_f r _ s)
  | ldRN r n => exact .inl (writeR_f r n s)
  | ldRR dst src => exact .inl (writeR_f dst _ s)
  | store p => exact .inl (by cases p <;> rfl)
  | load p => exact .inl (by cases p <;> rfl)
  | pop r =>
    rcases popRf_f_cases r s with same | ⟨rfl, low⟩
    · exact .inl same
    · exact .inr ⟨rfl, low⟩
  | addHl r => exact .inr ⟨by cases r <;> rfl, flags_low_nibble _ _ _ _⟩
  | addSp d => exact .inr ⟨writesFlags_addSpD d, addsp_low_nibble _ _ _⟩
  | ldHlSp d => exact .inr ⟨writesFlags_ldHlSpD d, addsp_low_nibble _ _ _⟩
  | incR r => exact .inr ⟨by cases r <;> rfl, by simp [incR]⟩
  | decR r => exact .inr ⟨by cases r <;> rfl, by simp [decR]⟩
  | aluR op r => exact .inr ⟨by cases op <;> cases r <;> rfl, aluApply_low_nibble _ _ _ _⟩
  | aluN op n => exact .inr ⟨writesFlags_selAluN op n, aluApply_low_nibble _ _ _ _⟩
  | acc y => exact .inr ⟨by revert y; decide, accApply_low_nibble y _ _⟩
  | cb b1 =>
    rw [writesFlags_cb (opcodeBytes_decodeCb b1), decide_eq_true_iff]
    exact prefixed_f_cases b1 s
  | prefixCb b1 =>
    rw [writesFlags_cb (opcodeBytes_prefixCb b1), decide_eq_true_iff]
    exact prefixed_f_cases b1 s

/-- Settles O22: an instruction that changes F is listed as writing it. -/
theorem flagsChangeOnlyWhereListed : Obligations.FlagsChangeOnlyWhereListed := by
  intro i s s' unlisted h
  obtain ⟨run, row, rfl⟩ := exec_row h
  rcases row_f_cases row s with same | ⟨listed, -⟩
  · exact same
  · rw [unlisted] at listed
    cases listed

/-- Settles O4: an instruction leaves F or writes it with a zero low nibble. -/
theorem stepKeepsFlagLowNibbleZero : Obligations.StepKeepsFlagLowNibbleZero := by
  intro s s' ok h
  rcases step_cases h with rfl | ⟨i, runs⟩ | rfl
  · exact ok
  · obtain ⟨run, row, rfl⟩ := exec_row runs
    rcases row_f_cases row s with same | ⟨-, low⟩
    · show (run s).f.extractLsb' 0 4 = 0#4
      rw [same]
      exact ok
    · exact low
  · exact ok

end Sys2Proof.Machine
end

section
/-! Proofs of the family `other`, part 6: what an instruction leaves in t, in PC, in the registers and in SP, each said
once over the rows of the map. -/

namespace Sys2Proof.Machine

open Sys2Proof.Claims

/-! ## The cycle counter (70_reset_and_hazards.md R404) -/

/-- The count that the cycle table gives a window in a state. -/
def cyclesAt (b0 b1 : Byte) (s : State) : Nat :=
  if b0 = 0xCB#8 then (if fieldZ b1 = 6#3 then 16 else 8)
  else if condition (ccOf (fieldY b0)) s then (tableEntry cycleTable (0, 0) b0).1
  else (tableEntry cycleTable (0, 0) b0).2

/-- The cycle counts of an instruction's opcode byte, taken and not taken. -/
def cyclesOf (i : Instr) : Nat × Nat := tableEntry cycleTable (0, 0) (opcodeBytes i).1

section
variable {i : Instr} {k k' : Nat} (s : State)

/-- An opcode whose two counts are the same takes that count. -/
theorem cyclesAt_unconditional (plain : (opcodeBytes i).1 ≠ 0xCB#8) (row : cyclesOf i = (k, k)) (b1 : Byte) :
    cyclesAt (opcodeBytes i).1 b1 s = k := by
  unfold cyclesOf at row
  simp only [cyclesAt, row, if_neg plain, ite_self]

/-- A conditional opcode takes the one count or the other. -/
theorem cyclesAt_conditional {cc : Cc} (plain : (opcodeBytes i).1 ≠ 0xCB#8) (row : cyclesOf i = (k, k'))
    (tests : ccOf (fieldY (opcodeBytes i).1) = cc) (b1 : Byte) :
    cyclesAt (opcodeBytes i).1 b1 s = if condition cc s = true then k else k' := by
  unfold cyclesOf at row
  simp only [cyclesAt, row, if_neg plain, tests]

end

theorem cyclesAt_cb (b1 : Byte) (s : State) : cyclesAt 0xCB#8 b1 s = if fieldZ b1 = 6#3 then 16 else 8 := if_pos rfl

theorem prefixed_t (b1 : Byte) (s : State) : (prefixed b1 s).t = if fieldZ b1 = 6#3 then 16 else 8 := by
  have finish (u : State) : (finishCb (r8Of (fieldZ b1)) u).t = if fieldZ b1 = 6#3 then 16 else 8 := by
    simp only [finishCb, advance_t, regOrMem, r8Of_eq_ind_iff, cycCbMem, cycCbR]
  rcases prefixed_cases b1 s with ⟨-, e⟩ | ⟨-, e⟩ | ⟨-, e⟩ | ⟨-, e⟩ <;> rw [e] <;> exact finish _

/-- An instruction takes the cycles that the table gives its bytes. -/
theorem row_t {i : Instr} {run : State → State} (row : Row i run) (known : i ∉ unrecognisedInstrs) (s : State) :
    (run s).t = cyclesAt (opcodeBytes i).1 (opcodeBytes i).2 s := by
  cases row with
  | nop | stop | halt | di | ei | jpHl | ret | reti | ldSpHl =>
    exact (cyclesAt_unconditional s (by decide) rfl _).symm
  | jr d => rw [opcode_jrD]; exact (cyclesAt_unconditional s (by decide) rfl _).symm
  | jp nn => rw [opcode_jpNn]; exact (cyclesAt_unconditional s (by decide) rfl _).symm
  | call nn => rw [opcode_callNn]; exact (cyclesAt_unconditional s (by decide) rfl _).symm
  | storeSp nn => rw [opcode_ldIndNnSp]; exact (cyclesAt_unconditional s (by decide) rfl _).symm
  | addSp d => rw [opcode_addSpD]; exact (cyclesAt_unconditional s (by decide) rfl _).symm
  | ldHlSp d => rw [opcode_ldHlSpD]; exact (cyclesAt_unconditional s (by decide) rfl _).symm
  | jrCc cc d =>
    rw [opcode_selJrCc, cyclesAt_conditional (cc := cc) (k := 12) (k' := 8) s (by cases cc <;> decide)
      (by cases cc <;> rfl) (by cases cc <;> rfl)]
    unfold jrCc; split <;> rfl
  | jpCc cc nn =>
    rw [opcode_selJpCc, cyclesAt_conditional (cc := cc) (k := 16) (k' := 12) s (by cases cc <;> decide)
      (by cases cc <;> rfl) (by cases cc <;> rfl)]
    unfold jpCc; split <;> rfl
  | callCc cc nn =>
    rw [opcode_selCallCc, cyclesAt_conditional (cc := cc) (k := 24) (k' := 12) s (by cases cc <;> decide)
      (by cases cc <;> rfl) (by cases cc <;> rfl)]
    unfold callCc; split <;> rfl
  | retCc cc =>
    rw [cyclesAt_conditional (cc := cc) (k := 20) (k' := 8) s (by cases cc <;> decide) (by cases cc <;> rfl)
      (by cases cc <;> rfl)]
    unfold retCc; split <;> rfl
  | rst y =>
    refine (cyclesAt_unconditional s (by revert y; decide) ?_ _).symm
    rcases field_cases y with rfl | rfl | rfl | rfl | rfl | rfl | rfl | rfl <;> rfl
  | ldRpNn r nn =>
    rw [opcode_selLdRpNn]
    exact (cyclesAt_unconditional s (by cases r <;> decide) (by cases r <;> rfl) _).symm
  | push r | pop r | addHl r | incRp r | decRp r =>
    exact (cyclesAt_unconditional s (by cases r <;> decide) (by cases r <;> rfl) _).symm
  | incR r | decR r => exact (cyclesAt_unconditional s (by cases r <;> decide) (by cases r <;> rfl) _).symm
  | ldRN r n =>
    rw [opcode_selLdRN]
    exact (cyclesAt_unconditional s (by cases r <;> decide) (by cases r <;> rfl) _).symm
  | ldRR dst src not_halt =>
    refine (cyclesAt_unconditional s (by cases dst <;> cases src <;> decide) ?_ _).symm
    cases dst <;> cases src <;> rfl
  | aluR op r =>
    exact (cyclesAt_unconditional s (by cases op <;> cases r <;> decide) (by cases op <;> cases r <;> rfl) _).symm
  | aluN op n =>
    rw [opcode_selAluN]
    exact (cyclesAt_unconditional s (by cases op <;> decide) (by cases op <;> rfl) _).symm
  | acc y =>
    refine (cyclesAt_unconditional s (by revert y; decide) ?_ _).symm
    rcases field_cases y with rfl | rfl | rfl | rfl | rfl | rfl | rfl | rfl <;> rfl
  | store p =>
    rw [opcode_selStore]
    cases p <;> dsimp only [APtr.blank] <;> exact (cyclesAt_unconditional s (by decide) rfl _).symm
  | load p =>
    rw [opcode_selLoad]
    cases p <;> dsimp only [APtr.blank] <;> exact (cyclesAt_unconditional s (by decide) rfl _).symm
  | cb b1 => rw [opcodeBytes_decodeCb, cyclesAt_cb, prefixed_t]
  | prefixCb b1 => rw [opcodeBytes_prefixCb, cyclesAt_cb, prefixed_t]
  | unrecognised i h => exact absurd h known

theorem not_mem_unrecognisedInstrs {b0 b1 b2 : Byte} {i : Instr} (h : decodeWindow b0 b1 b2 = .ok i)
    (known : b0 ∉ unrecognisedOpcodes) : i ∉ unrecognisedInstrs := by
  have opcodes : ∀ j ∈ unrecognisedInstrs, (opcodeBytes j).1 ∈ unrecognisedOpcodes := by decide
  intro unrecognised
  have opcode := opcodes i unrecognised
  rw [opcode_of_decodeWindow h] at opcode
  exact known opcode

/-- A recognised window executes, and its cycles are those of the table. -/
theorem execute_t {b0 : Byte} (known : b0 ∉ unrecognisedOpcodes) (b1 b2 b3 : Byte) (s : State) :
    ∃ s', execute b0 b1 b2 b3 s = .next s' ∧ s'.t = cyclesAt b0 b1 s := by
  obtain ⟨i, decoded, window⟩ := decodeWindow_fromWindow b0 b1 b2
  obtain ⟨run, row⟩ := window.row
  have opcode := opcode_of_decodeWindow decoded
  refine ⟨run s, (execute_of_decodeWindow decoded b3 s).trans (row.exec_eq s), ?cycles⟩
  case cycles =>
    rw [row_t row (not_mem_unrecognisedInstrs decoded known) s, opcode]
    by_cases cb : b0 = 0xCB#8
    · subst cb
      rw [decodeWindow_cb] at decoded
      rw [← Except.ok.inj decoded, opcodeBytes_decodeCb]
    · simp only [cyclesAt, if_neg cb]

/-- Settles O20: the table's count of each row, and the operand of a CB instruction. -/
theorem cyclesFollowTheCycleTable : Obligations.CyclesFollowTheCycleTable :=
  fun _ b1 b2 b3 s known => execute_t known b1 b2 b3 s

/-- The largest count of the table is that of a CALL. -/
theorem cyclesAt_le (b0 b1 : Byte) (s : State) : cyclesAt b0 b1 s ≤ 24 := by
  have table : (tableEntry cycleTable (0, 0) b0).1 ≤ 24 ∧ (tableEntry cycleTable (0, 0) b0).2 ≤ 24 := by
    revert b0; decide
  unfold cyclesAt
  split
  · split <;> decide
  · split
    · exact table.1
    · exact table.2

/-- Settles O5: a Tick counts down, an instruction writes a count of the table, the stall leaves t. -/
theorem stepKeepsCycleCounterBounded : Obligations.StepKeepsCycleCounterBounded := by
  intro s s' bounded h
  rcases step_cases h with rfl | ⟨i, runs⟩ | rfl
  · exact (Nat.sub_le s.t 1).trans bounded
  · obtain ⟨run, row, rfl⟩ := exec_row runs
    by_cases unrecognised : i ∈ unrecognisedInstrs
    · have same : s = run s := Host.Outcome.next.inj ((exec_unrecognised unrecognised s).symm.trans runs)
      exact same ▸ bounded
    · exact (row_t row unrecognised s).trans_le (cyclesAt_le _ _ s)
  · exact bounded

/-- Settles O13: an unrecognised opcode stalls; any other writes a count of at most 24 to t, so it changes a state whose
t is 25. -/
theorem exactlyElevenOpcodesChangeNothing : Obligations.ExactlyElevenOpcodesChangeNothing := by
  intro b0 b1 b2 b3
  constructor
  · intro identity
    by_contra known
    obtain ⟨s', runs, cycles⟩ := execute_t known b1 b2 b3 { State.reset with t := 25 }
    have same := Host.Outcome.next.inj ((identity { State.reset with t := 25 }).symm.trans runs)
    rw [← same] at cycles
    exact absurd (cycles.trans_le (cyclesAt_le _ _ _)) (by decide)
  · exact fun unrecognised s => execute_unrecognised unrecognised b1 b2 b3 s

theorem prefixed_ignores_t (b1 : Byte) (s : State) (k : Nat) : prefixed b1 { s with t := k } = prefixed b1 s := by
  unfold prefixed
  split <;> cases r8Of (fieldZ b1) <;> rfl

/-- Settles O15: no meaning reads t, so from two states that differ in t alone each computes the same state; only the
unrecognised opcodes hand t on. -/
theorem executionIgnoresTheCycleCounter : Obligations.ExecutionIgnoresTheCycleCounter := by
  intro i s k known
  obtain ⟨run, row⟩ := exists_row i
  rw [row.exec_eq, row.exec_eq]
  congr 1
  cases row with
  | ldRpNn r | incRp r | decRp r => cases r <;> rfl
  | pop r => cases r <;> rfl
  | incR r | decR r | ldRN r => cases r <;> rfl
  | ldRR dst src => cases dst <;> rfl
  | store p | load p => cases p <;> rfl
  | cb b1 | prefixCb b1 => exact prefixed_ignores_t b1 s k
  | unrecognised i h => exact absurd h known
  | _ => rfl

end Sys2Proof.Machine
end

section
/-! Proofs of the family `other`, part 7: what an instruction leaves in PC, in the registers and in SP, each said once
over the rows of the map. -/

namespace Sys2Proof.Machine

open Sys2Proof.Claims

/-! ## PC: past the instruction, unless it is a transfer (10_state.md R23) -/

theorem pc_eq_of_length {p q : Word} {bytes : List Byte} (n : Nat) (len : bytes.length = n)
    (moved : p = q + BitVec.ofNat 16 n) : p = q + BitVec.ofNat 16 bytes.length := by
  rw [len, moved]

theorem prefixed_pc (b1 : Byte) (s : State) : (prefixed b1 s).pc = s.pc + 2#16 := by
  rcases prefixed_cases b1 s with ⟨-, e⟩ | ⟨-, e⟩ | ⟨-, e⟩ | ⟨-, e⟩ <;> rw [e]
  · simp [rotateR, finishCb]
  · rfl
  · simp [resR, finishCb]
  · simp [setR, finishCb]

theorem row_pc {i : Instr} {run : State → State} (row : Row i run) (known : i ∉ unrecognisedInstrs)
    (stays : transfers i = false) (s : State) : (run s).pc = s.pc + BitVec.ofNat 16 (encode i).length := by
  cases row with
  | nop | stop | halt | di | ei | storeSp | ldSpHl | addSp | ldHlSp => rfl
  | jr d => rw [transfers_congr (opcode_jrD d)] at stays; exact absurd stays (by decide)
  | jp nn => rw [transfers_congr (opcode_jpNn nn)] at stays; exact absurd stays (by decide)
  | call nn => rw [transfers_congr (opcode_callNn nn)] at stays; exact absurd stays (by decide)
  | jrCc cc d =>
    rw [transfers_congr (opcode_selJrCc cc d)] at stays
    exact absurd stays (by cases cc <;> decide)
  | jpCc cc nn =>
    rw [transfers_congr (opcode_selJpCc cc nn)] at stays
    exact absurd stays (by cases cc <;> decide)
  | callCc cc nn =>
    rw [transfers_congr (opcode_selCallCc cc nn)] at stays
    exact absurd stays (by cases cc <;> decide)
  | retCc cc => exact absurd stays (by cases cc <;> decide)
  | rst y => exact absurd stays (by revert y; decide)
  | jpHl | ret | reti => exact absurd stays (by decide)
  | ldRpNn r nn => exact pc_eq_of_length 3 (by cases r <;> rfl) (by simp [ldRpNn])
  | push r => exact pc_eq_of_length 1 (by cases r <;> rfl) rfl
  | pop r => exact pc_eq_of_length 1 (by cases r <;> rfl) (by simp [popRf])
  | addHl r => exact pc_eq_of_length 1 (by cases r <;> rfl) rfl
  | incRp r => exact pc_eq_of_length 1 (by cases r <;> rfl) (by simp [incRp])
  | decRp r => exact pc_eq_of_length 1 (by cases r <;> rfl) (by simp [decRp])
  | incR r => exact pc_eq_of_length 1 (by cases r <;> rfl) (by simp [incR])
  | decR r => exact pc_eq_of_length 1 (by cases r <;> rfl) (by simp [decR])
  | ldRN r n => exact pc_eq_of_length 2 (by cases r <;> rfl) (by simp [ldRN])
  | ldRR dst src => exact pc_eq_of_length 1 (by rw [encode_selLdRR]; rfl) (by simp [ldRR])
  | aluR op r => exact pc_eq_of_length 1 (by rw [encode_selAluR]; rfl) rfl
  | aluN op n => exact pc_eq_of_length 2 (by cases op <;> rfl) rfl
  | acc y => exact pc_eq_of_length 1 (by rw [encode_selAcc]; rfl) rfl
  | store p => cases p <;> rfl
  | load p => cases p <;> rfl
  | cb b1 => exact pc_eq_of_length 2 (by rw [encode_decodeCb]; rfl) (prefixed_pc b1 s)
  | prefixCb b1 => exact prefixed_pc b1 s
  | unrecognised i h => exact absurd h known

/-- Settles O21: every row that is no transfer ends in an advance by the length of its encoding. -/
theorem programCounterAdvancesByTheLength : Obligations.ProgramCounterAdvancesByTheLength := by
  intro i s known stays
  obtain ⟨run, row⟩ := exists_row i
  exact ⟨run s, row.exec_eq s, row_pc row known stays s⟩

/-! ## The 8-bit registers: only destinations change (10_state.md R32) -/

/-- The registers A, B, C, D, E, H, L of a state. -/
def regs (s : State) : Byte × Byte × Byte × Byte × Byte × Byte × Byte := (s.a, s.b, s.c, s.d, s.e, s.h, s.l)

section
variable {r : R8} {s s' u : State}

/-- A read of a register depends on the registers alone. -/
theorem readR_of_regs_eq (reg : r ≠ .ind) (same : regs s' = regs s) : readR r s' = readR r s := by
  simp only [regs, Prod.mk.injEq] at same
  obtain ⟨ha, hb, hc, hd, he, hh, hl⟩ := same
  cases r <;> simp_all [readR]

theorem readR_writeR_ne {dst : R8} (v : Byte) (reg : r ≠ .ind) (ne : r ≠ dst) :
    readR r (writeR dst v s) = readR r s := by
  cases dst with
  | ind => exact readR_of_regs_eq reg rfl
  | _ => cases r <;> simp_all [readR, writeR]

/-- After a write to `dst` beside changes to other fields, every other register is as before. -/
theorem readR_of_writeR {dst : R8} {v : Byte} (reg : r ≠ .ind) (other : r ∉ [dst]) (same : regs u = regs s)
    (written : regs s' = regs (writeR dst v u)) : readR r s' = readR r s := by
  rw [readR_of_regs_eq reg written, readR_writeR_ne v reg (by simpa using other), readR_of_regs_eq reg same]

/-- The halves of a pair of table `rp`; SP has none. -/
def halvesOf : Rp → List R8
  | .bc => [.b, .c]
  | .de => [.d, .e]
  | .hl => [.h, .l]
  | .sp => []

theorem readR_writeRp_ne {p : Rp} (v : Word) (reg : r ≠ .ind) (other : r ∉ halvesOf p) :
    readR r (writeRp p v s) = readR r s := by
  cases p with
  | sp => exact readR_of_regs_eq reg rfl
  | bc => cases r <;> simp_all [halvesOf, readR, writeRp]
  | de => cases r <;> simp_all [halvesOf, readR, writeRp]
  | hl => cases r <;> simp_all [halvesOf, readR, writeRp]

/-- After a write to the pair `p` beside changes to other fields, every register outside it is as before. -/
theorem readR_of_writeRp {p : Rp} {v : Word} (reg : r ≠ .ind) (other : r ∉ halvesOf p) (same : regs u = regs s)
    (written : regs s' = regs (writeRp p v u)) : readR r s' = readR r s := by
  rw [readR_of_regs_eq reg written, readR_writeRp_ne v reg other, readR_of_regs_eq reg same]

end

/-- What a CB instruction may write: its operand, unless it is BIT. -/
theorem destinations_cb {i : Instr} {b1 : Byte} (e : opcodeBytes i = (0xCB#8, b1)) :
    destinations i = if fieldX b1 = 1#2 then [] else [r8Of (fieldZ b1)] := by
  simp [destinations, e]

theorem prefixed_registers {r : R8} (reg : r ≠ .ind) {b1 : Byte}
    (other : r ∉ if fieldX b1 = 1#2 then [] else [r8Of (fieldZ b1)]) (s : State) :
    readR r (prefixed b1 s) = readR r s := by
  rcases prefixed_cases b1 s with ⟨hx, e⟩ | ⟨hx, e⟩ | ⟨hx, e⟩ | ⟨hx, e⟩ <;> rw [e] <;> rw [hx] at other
  · exact readR_of_writeR
      (u := { s with f := (rotApply (rotOf (fieldY b1)) (readR (r8Of (fieldZ b1)) s) s.f).2 }) reg other rfl rfl
  · exact readR_of_regs_eq reg rfl
  · exact readR_of_writeR reg other rfl rfl
  · exact readR_of_writeR reg other rfl rfl

theorem destinations_selLdRpNn (r : Rp) (nn : Word) : destinations (selLdRpNn r nn) = halvesOf r := by
  rw [destinations_congr (opcode_selLdRpNn r nn) (by cases r <;> decide)]
  cases r <;> rfl

theorem destinations_selIncRp (r : Rp) : destinations (selIncRp r) = halvesOf r := by cases r <;> rfl

theorem destinations_selDecRp (r : Rp) : destinations (selDecRp r) = halvesOf r := by cases r <;> rfl

theorem destinations_selAddHl (r : Rp) : destinations (selAddHl r) = [.h, .l] := by cases r <;> rfl

theorem destinations_ldHlSpD (d : Byte) : destinations (.ldHlSpD d) = [.h, .l] := by
  rw [destinations_congr (opcode_ldHlSpD d) (by decide)]; rfl

theorem destinations_selIncR (r : R8) : destinations (selIncR r) = [r] := by cases r <;> rfl

theorem destinations_selDecR (r : R8) : destinations (selDecR r) = [r] := by cases r <;> rfl

theorem destinations_selLdRN (r : R8) (n : Byte) : destinations (selLdRN r n) = [r] := by
  rw [destinations_congr (opcode_selLdRN r n) (by cases r <;> decide)]
  cases r <;> rfl

theorem destinations_selLdRR (dst src : R8) : destinations (selLdRR dst src) = [dst] := by
  cases dst <;> cases src <;> rfl

/-- The accumulator operations write A, but for CP. -/
theorem destinations_selAluR (op : AluOp) (r : R8) :
    destinations (selAluR op r) = if op = .cp then [] else [.a] := by
  cases op <;> cases r <;> rfl

theorem destinations_selAluN (op : AluOp) (n : Byte) :
    destinations (selAluN op n) = if op = .cp then [] else [.a] := by
  rw [destinations_congr (opcode_selAluN op n) (by cases op <;> decide)]
  cases op <;> rfl

/-- An accumulator operation changes A alone, and CP does not change it. -/
theorem aluA_registers {r : R8} (reg : r ≠ .ind) {op : AluOp} (other : r ∉ if op = .cp then [] else [R8.a])
    (v : Byte) (s : State) : readR r (aluA op v s) = readR r s := by
  by_cases compare : op = .cp
  · subst compare
    exact readR_of_regs_eq reg rfl
  · rw [if_neg compare] at other
    exact readR_of_writeR (dst := .a) reg other rfl rfl

/-- POP changes the halves of its pair: those of the pair in `rp`, and A for AF. -/
theorem popRf_registers {r : R8} (reg : r ≠ .ind) {p : Rf} (other : r ∉ destinations (selPop p)) (s : State) :
    readR r (popRf p s) = readR r s := by
  cases p with
  | bc => exact readR_of_writeRp (p := .bc) reg other rfl rfl
  | de => exact readR_of_writeRp (p := .de) reg other rfl rfl
  | hl => exact readR_of_writeRp (p := .hl) reg other rfl rfl
  | af => exact readR_of_writeR (dst := .a) reg other rfl rfl

/-- The rows of block x = 0, z = 7 write A, but for SCF and CCF. -/
theorem destinations_selAcc (y : BitVec 3) : destinations (selAcc y) = if y.toNat ≤ 5 then [.a] else [] := by
  revert y; decide

theorem accApply_keeps_a {y : BitVec 3} (h : ¬ y.toNat ≤ 5) (a f : Byte) : (accApply y a f).1 = a := by
  have scf_or_ccf : y = 6 ∨ y = 7 := by revert y; decide
  rcases scf_or_ccf with rfl | rfl <;> rfl

theorem withAF_registers {r : R8} (reg : r ≠ .ind) {y : BitVec 3}
    (other : r ∉ if y.toNat ≤ 5 then [R8.a] else []) (s : State) :
    readR r (withAF (accApply y s.a s.f) s) = readR r s := by
  by_cases writes : y.toNat ≤ 5
  · rw [if_pos writes] at other
    exact readR_of_writeR (dst := .a) reg other rfl rfl
  · exact readR_of_regs_eq reg (by simp [regs, withAF, accApply_keeps_a writes])

/-- The registers that a form of address moves. -/
def APtr.moved : APtr → List R8
  | .hlInc | .hlDec => [.h, .l]
  | _ => []

theorem destinations_selStore (p : APtr) : destinations p.selStore = p.moved := by
  rw [destinations_congr (opcode_selStore p) (by cases p <;> dsimp only [APtr.blank] <;> decide)]
  cases p <;> dsimp only [APtr.blank] <;> rfl

theorem destinations_selLoad (p : APtr) : destinations p.selLoad = .a :: p.moved := by
  rw [destinations_congr (opcode_selLoad p) (by cases p <;> dsimp only [APtr.blank] <;> decide)]
  cases p <;> dsimp only [APtr.blank] <;> rfl

theorem moveHl_registers {r : R8} (reg : r ≠ .ind) {p : APtr} (other : r ∉ p.moved) (s : State) :
    readR r (p.moveHl s) = readR r s := by
  cases p with
  | hlInc | hlDec => exact readR_of_writeRp (p := .hl) reg other rfl rfl
  | _ => exact readR_of_regs_eq reg rfl

theorem store_registers {r : R8} (reg : r ≠ .ind) {p : APtr} (other : r ∉ p.moved) (s : State) :
    readR r (p.store s) = readR r s :=
  (moveHl_registers reg other _).trans (readR_of_regs_eq reg rfl)

theorem load_registers {r : R8} (reg : r ≠ .ind) {p : APtr} (other : r ∉ R8.a :: p.moved) (s : State) :
    readR r (p.load s) = readR r s := by
  obtain ⟨not_a, not_moved⟩ : r ≠ .a ∧ r ∉ p.moved := by simpa using other
  exact (moveHl_registers reg not_moved _).trans
    (readR_of_writeR (dst := .a) reg (by simpa using not_a) rfl rfl)

/-- A register that is no destination of an instruction is as before. -/
theorem row_registers {i : Instr} {run : State → State} (row : Row i run) {r : R8} (reg : r ≠ .ind)
    (other : r ∉ destinations i) (s : State) : readR r (run s) = readR r s := by
  cases row with
  | nop | stop | halt | di | ei | jr | jp | jpHl | call | rst | ret | reti | storeSp | ldSpHl | addSp | push
  | unrecognised => exact readR_of_regs_eq reg rfl
  | jrCc cc d => unfold jrCc; split <;> exact readR_of_regs_eq reg rfl
  | jpCc cc nn => unfold jpCc; split <;> exact readR_of_regs_eq reg rfl
  | callCc cc nn => unfold callCc; split <;> exact readR_of_regs_eq reg rfl
  | retCc cc => unfold retCc; split <;> exact readR_of_regs_eq reg rfl
  | ldRpNn p nn => rw [destinations_selLdRpNn] at other; exact readR_of_writeRp reg other rfl rfl
  | incRp p => rw [destinations_selIncRp] at other; exact readR_of_writeRp reg other rfl rfl
  | decRp p => rw [destinations_selDecRp] at other; exact readR_of_writeRp reg other rfl rfl
  | addHl p => rw [destinations_selAddHl] at other; exact readR_of_writeRp (p := .hl) reg other rfl rfl
  | ldHlSp d => rw [destinations_ldHlSpD] at other; exact readR_of_writeRp (p := .hl) reg other rfl rfl
  | pop p => exact popRf_registers reg other s
  | incR x =>
    rw [destinations_selIncR] at other
    exact readR_of_writeR (u := { s with f := (inc8 (readR x s) s.f).2 }) reg other rfl rfl
  | decR x =>
    rw [destinations_selDecR] at other
    exact readR_of_writeR (u := { s with f := (dec8 (readR x s) s.f).2 }) reg other rfl rfl
  | ldRN x n => rw [destinations_selLdRN] at other; exact readR_of_writeR reg other rfl rfl
  | ldRR dst src => rw [destinations_selLdRR] at other; exact readR_of_writeR reg other rfl rfl
  | aluR op x =>
    rw [destinations_selAluR] at other
    exact (readR_of_regs_eq reg rfl).trans (aluA_registers reg other (readR x s) s)
  | aluN op n =>
    rw [destinations_selAluN] at other
    exact (readR_of_regs_eq reg rfl).trans (aluA_registers reg other n s)
  | acc y => rw [destinations_selAcc] at other; exact withAF_registers reg other s
  | store p => rw [destinations_selStore] at other; exact store_registers reg other s
  | load p => rw [destinations_selLoad] at other; exact load_registers reg other s
  | cb b1 => rw [destinations_cb (opcodeBytes_decodeCb b1)] at other; exact prefixed_registers reg other s
  | prefixCb b1 => rw [destinations_cb (opcodeBytes_prefixCb b1)] at other; exact prefixed_registers reg other s

/-! ## SP and the draw counter (10_state.md R22) -/

theorem prefixed_sp (b1 : Byte) (s : State) : (prefixed b1 s).sp = s.sp := by
  rcases prefixed_cases b1 s with ⟨-, e⟩ | ⟨-, e⟩ | ⟨-, e⟩ | ⟨-, e⟩ <;> rw [e]
  · exact writeR_sp _ _ _
  · rfl
  · exact writeR_sp _ _ _
  · exact writeR_sp _ _ _

theorem prefixed_extDraws (b1 : Byte) (s : State) : (prefixed b1 s).extDraws = s.extDraws := by
  rcases prefixed_cases b1 s with ⟨-, e⟩ | ⟨-, e⟩ | ⟨-, e⟩ | ⟨-, e⟩ <;> rw [e]
  · exact writeR_extDraws _ _ _
  · rfl
  · exact writeR_extDraws _ _ _
  · exact writeR_extDraws _ _ _

theorem writeRp_sp {p : Rp} (v : Word) (s : State) (h : p ≠ .sp) : (writeRp p v s).sp = s.sp := by
  cases p with
  | sp => exact absurd rfl h
  | _ => rfl

/-- An instruction that is not listed as writing SP leaves it. -/
theorem row_sp {i : Instr} {run : State → State} (row : Row i run) (unlisted : writesSP i = false) (s : State) :
    (run s).sp = s.sp := by
  cases row with
  | nop | stop | halt | di | ei | jr | jp | jpHl | storeSp | addHl | ldHlSp | aluR | aluN | acc | unrecognised => rfl
  | jrCc cc d => unfold jrCc; split <;> rfl
  | jpCc cc nn => unfold jpCc; split <;> rfl
  | ret | reti | ldSpHl => exact absurd unlisted (by decide)
  | call nn => rw [writesSP_congr (opcode_callNn nn)] at unlisted; exact absurd unlisted (by decide)
  | addSp d => rw [writesSP_congr (opcode_addSpD d)] at unlisted; exact absurd unlisted (by decide)
  | callCc cc nn =>
    rw [writesSP_congr (opcode_selCallCc cc nn)] at unlisted
    exact absurd unlisted (by cases cc <;> decide)
  | retCc cc => exact absurd unlisted (by cases cc <;> decide)
  | rst y => exact absurd unlisted (by revert y; decide)
  | push r | pop r => exact absurd unlisted (by cases r <;> decide)
  | ldRpNn p nn =>
    refine writeRp_sp nn s ?_
    rintro rfl
    rw [writesSP_congr (opcode_selLdRpNn .sp nn)] at unlisted
    exact absurd unlisted (by decide)
  | incRp p => exact writeRp_sp _ s (by rintro rfl; exact absurd unlisted (by decide))
  | decRp p => exact writeRp_sp _ s (by rintro rfl; exact absurd unlisted (by decide))
  | incR r => exact writeR_sp r _ _
  | decR r => exact writeR_sp r _ _
  | ldRN r n => exact writeR_sp r n s
  | ldRR dst src => exact writeR_sp dst _ s
  | store p | load p => cases p <;> rfl
  | cb b1 | prefixCb b1 => exact prefixed_sp b1 s

/-- No instruction draws a free value. -/
theorem row_extDraws {i : Instr} {run : State → State} (row : Row i run) (s : State) :
    (run s).extDraws = s.extDraws := by
  cases row with
  | jrCc cc d => unfold jrCc; split <;> rfl
  | jpCc cc nn => unfold jpCc; split <;> rfl
  | callCc cc nn => unfold callCc; split <;> rfl
  | retCc cc => unfold retCc; split <;> rfl
  | ldRpNn p | incRp p | decRp p => exact writeRp_extDraws p _ s
  | pop p => exact writeRf_extDraws p _ _
  | incR r => exact writeR_extDraws r _ _
  | decR r => exact writeR_extDraws r _ _
  | ldRN r n => exact writeR_extDraws r n s
  | ldRR dst src => exact writeR_extDraws dst _ s
  | store p | load p => cases p <;> rfl
  | cb b1 | prefixCb b1 => exact prefixed_extDraws b1 s
  | _ => rfl

/-- Settles O23: the frames of the registers, of SP and of the draw counter, read off the rows. -/
theorem registersChangeOnlyAsDestinations : Obligations.RegistersChangeOnlyAsDestinations := by
  intro i s s' h
  obtain ⟨run, row, rfl⟩ := exec_row h
  exact ⟨fun _ reg other => row_registers row reg other s, fun unlisted => row_sp row unlisted s,
    row_extDraws row s⟩

end Sys2Proof.Machine
end

section
/-! Proofs of the family `other`, part 8: memory words, loads and the stack. -/

namespace Sys2Proof.Machine

open Sys2Proof.Claims

/-! ## Memory words (20_memory.md R54, R56) -/

/-- A word write changes only the memory. -/
theorem memWrite16_restore_mem (addr v : Word) (s : State) : { memWrite16 addr v s with mem := s.mem } = s := rfl

/-- Settles O26: what a byte read sees after a word write, at the two addresses and beside them. -/
theorem wordAccessIsLittleEndianAndWraps : Obligations.WordAccessIsLittleEndianAndWraps := by
  intro addr v s
  have low : memRead addr (memWrite16 addr v s) = lowByte v := by
    rw [memRead_memWrite16, if_neg (Ne.symm (word_add_one_ne addr)), if_pos rfl]
  have high : memRead (addr + 1#16) (memWrite16 addr v s) = highByte v := by
    rw [memRead_memWrite16, if_pos rfl]
  refine ⟨compose_toNat _ _, ?_, ?_, fun a neLow neHigh => ?_, memRead16_memWrite16 addr v s,
    memWrite16_restore_mem addr v s⟩
  · rw [low, lowByte_toNat]
  · rw [high, highByte_toNat]
  · rw [memRead_memWrite16, if_neg neHigh, if_neg neLow]

/-! ## 8-bit loads -/

theorem ldRN_eq (r : R8) (n : Byte) (s : State) :
    ldRN r n s = { writeR r n s with pc := s.pc + 2#16, t := if r = .ind then 12 else 8 } := by
  simp only [ldRN, advance, writeR_pc, regOrMem, cycLdMemN, cycLdRN]

/-- Settles O30. The next state is the write of n and the advance; index 6 is the byte at HL. -/
theorem loadOperandImmediate : Obligations.LoadOperandImmediate := by
  intro y n s
  simp only [exec_selLdRN, ldRN_eq, r8Of_eq_ind_iff]

/-- The high page never wraps (20_memory.md R70). -/
theorem highPage_eq_ofNat (n : Byte) : highPage n = BitVec.ofNat 16 (0xFF00 + n.toNat) := by
  apply BitVec.eq_of_toNat_eq
  simp [highPage, zext16_toNat]

/-- Settles O31: each store is `storeA` at its address, and HL moves where the form says so. -/
theorem storesOfTheAccumulator : Obligations.StoresOfTheAccumulator := by
  intro s n nn
  rw [← highPage_eq_ofNat, ← highPage_eq_ofNat]
  refine ⟨exec_selStore .bc s, exec_selStore .de s, exec_selStore .hlInc s, exec_selStore .hlDec s,
    exec_selStore (.highN n) s, exec_selStore .highC s, exec_selStore (.abs nn) s⟩

/-- Settles O32: each load is `loadA` from its address, and HL moves where the form says so. -/
theorem loadsOfTheAccumulator : Obligations.LoadsOfTheAccumulator := by
  intro s n nn
  rw [← highPage_eq_ofNat, ← highPage_eq_ofNat]
  refine ⟨exec_selLoad .bc s, exec_selLoad .de s, exec_selLoad .hlInc s, exec_selLoad .hlDec s,
    exec_selLoad (.highN n) s, exec_selLoad .highC s, exec_selLoad (.abs nn) s⟩

/-! ## 16-bit loads and the stack -/

theorem ldRpNn_eq (r : Rp) (nn : Word) (s : State) :
    ldRpNn r nn s = { writeRp r nn s with pc := s.pc + 3#16, t := 12 } := by
  simp only [ldRpNn, advance, writeRp_pc, cycLdRpNn]

/-- Settles O33. LD (nn),SP and LD SP,HL are their meanings as written. -/
theorem loadsOfPairsAndStackPointer : Obligations.LoadsOfPairsAndStackPointer := by
  intro s r nn
  refine ⟨?pair, rfl, rfl⟩
  case pair => rw [exec_selLdRpNn, ldRpNn_eq]

/-- The second address of the slot below SP. -/
theorem pushSlot_high (sp : Word) : sp - 2#16 + 1#16 = sp - 1#16 := by bv_omega

/-- Settles O34: the slot below SP takes the two bytes of the pair, as any word write puts them. -/
theorem pushStoresThePairBelowSP : Obligations.PushStoresThePairBelowSP := by
  intro r s
  have reads (a : Word) : memRead a (pushRf r s) =
      if a = s.sp - 1#16 then highByte (readRf r s)
      else if a = s.sp - 2#16 then lowByte (readRf r s) else memRead a s := by
    rw [← pushSlot_high]
    exact memRead_push16 a (readRf r s) s
  have apart : s.sp - 2#16 ≠ s.sp - 1#16 := by bv_omega
  refine ⟨pushRf r s, exec_selPush r s, rfl, ?low, ?high, fun a neLow neHigh => ?beside⟩
  case low => rw [reads, if_neg apart, if_pos rfl, lowByte_toNat]
  case high => rw [reads, if_pos rfl, highByte_toNat]
  case beside => rw [reads, if_neg neHigh, if_neg neLow]

/-- Clearing the low four bits of a word, as a number. -/
theorem and_FFF0_toNat (v : Word) : (v &&& 0xFFF0#16).toNat = v.toNat / 16 * 16 := by
  have shifts : v &&& 0xFFF0#16 = (v >>> 4) <<< 4 := by
    ext i hi
    interval_cases i <;> simp
  rw [shifts, BitVec.toNat_shiftLeft, BitVec.toNat_ushiftRight, Nat.shiftRight_eq_div_pow, Nat.shiftLeft_eq]
  omega

theorem popMask_toNat (r : Rf) (v : Word) :
    (popMask r v).toNat = if r = .af then v.toNat / 16 * 16 else v.toNat := by
  unfold popMask
  split
  · exact and_FFF0_toNat v
  · rfl

theorem popRf_eq (r : Rf) (s : State) : popRf r s =
    { writeRf r (popMask r (popValue s)) s with sp := s.sp + 2#16, pc := s.pc + 1#16, t := 12 } := by
  cases r <;> rfl

/-- Settles O35: the word at SP is the composition of its two bytes, and the mask clears bits of the low one. -/
theorem popLoadsThePairFromSP : Obligations.PopLoadsThePairFromSP := by
  intro r s
  refine ⟨popMask r (popValue s), ?value, ?next⟩
  case value =>
    rw [popMask_toNat, popValue, memRead16, compose_toNat]
    split <;> omega
  case next => rw [exec_selPop, popRf_eq]

/-- A pop after a push sees the pushed value. -/
theorem popValue_pushRf (r : Rf) (s : State) : popValue (pushRf r s) = readRf r s := popValue_push16 (readRf r s) s

theorem readRf_popRf (r : Rf) (s : State) : readRf r (popRf r s) = popMask r (popValue s) := by
  rw [← readRf_writeRf r (popMask r (popValue s)) s, popRf_eq]
  cases r <;> rfl

/-- Settles O36: the popped word is the pushed one, and SP comes back modulo 65536. -/
theorem pushThenPopRestoresValueAndSP : Obligations.PushThenPopRestoresValueAndSP := by
  intro r r' s s1 pushed
  cases (exec_selPush r s).symm.trans pushed
  have value : readRf r' (popRf r' (pushRf r s)) = popMask r' (readRf r s) := by
    rw [readRf_popRf, popValue_pushRf]
  refine ⟨popRf r' (pushRf r s), exec_selPop r' _, ?sp, fun plain => ?pair, ?af⟩
  case sp => rw [popRf_eq]; exact popState_push16_sp (readRf r s) s
  case pair => rw [value, popMask, if_neg plain]
  case af =>
    rintro rfl
    rw [value, popMask_toNat, if_pos rfl]

end Sys2Proof.Machine
end

section
/-! Proofs of the family `other`, part 9: 8-bit and 16-bit arithmetic, the accumulator and the flags. -/

namespace Sys2Proof.Machine

open Sys2Proof.Claims

/-! ## Accumulator operations (40_bitops_alu.md R125 to R132) -/

theorem aluN_eq (op : AluOp) (n : Byte) (s : State) : aluN op n s = { s with
    a := (aluApply op s.a n s.f).1, f := (aluApply op s.a n s.f).2, pc := s.pc + 2#16, t := 8 } := rfl

/-- Settles O38: the three subtractions are rows of the table `al` like the others, and n stands for the operand. -/
theorem accumulatorSubtractionsAndImmediates : Obligations.AccumulatorSubtractionsAndImmediates := by
  refine ⟨fun op _ z s => ⟨encode_selAluR_r8Of op z, exec_selAluR_r8Of op z s⟩, fun op n s => ?immediate⟩
  case immediate =>
    refine ⟨_, _, ?next, aluApply_leaves op s.a n s.f⟩
    case next => rw [exec_selAluN, aluN_eq]

/-! ## INC and DEC of an operand (R135, R136) -/

theorem flagZ_iff (f : Byte) : flagZ f = true ↔ Zset f := Iff.rfl
theorem flagN_iff (f : Byte) : flagN f = true ↔ Nset f := Iff.rfl
theorem flagH_iff (f : Byte) : flagH f = true ↔ Hset f := Iff.rfl
theorem flagC_iff (f : Byte) : flagC f = true ↔ Cset f := Iff.rfl

theorem inc8_toNat (v f : Byte) : (inc8 v f).1.toNat = (v.toNat + 1) % 256 := BitVec.toNat_add v 1#8

theorem inc8_flags (v f : Byte) :
    FlagsAre (inc8 v f).2 ((inc8 v f).1 = 0#8) False (v.toNat % 16 = 0xF) (Cset f) := by
  simp [inc8, nibble_eq_mod, flagC_iff]

theorem dec8_toNat (v f : Byte) : ((dec8 v f).1.toNat : Int) = ((v.toNat : Int) - 1) % 256 :=
  toNat_sub_eq_emod v 1#8

theorem dec8_flags (v f : Byte) :
    FlagsAre (dec8 v f).2 ((dec8 v f).1 = 0#8) True (v.toNat % 16 = 0) (Cset f) := by
  simp [dec8, nibble_eq_mod, flagC_iff]

/-- A new F beside a write to `r[i]` is a new F after it. -/
theorem writeR_setF (r : R8) (v f : Byte) (s : State) : writeR r v { s with f := f } = { writeR r v s with f := f } := by
  cases r <;> rfl

theorem incR_eq (r : R8) (s : State) : incR r s = { writeR r (inc8 (readR r s) s.f).1 s with
    f := (inc8 (readR r s) s.f).2, pc := s.pc + 1#16, t := if r = .ind then 12 else 4 } := by
  simp only [incR, advance, writeR_setF, writeR_pc, regOrMem, cycIncDecMem, cycIncDecR]

theorem decR_eq (r : R8) (s : State) : decR r s = { writeR r (dec8 (readR r s) s.f).1 s with
    f := (dec8 (readR r s) s.f).2, pc := s.pc + 1#16, t := if r = .ind then 12 else 4 } := by
  simp only [decR, advance, writeR_setF, writeR_pc, regOrMem, cycIncDecMem, cycIncDecR]

/-- Settles O39: both are one write to the operand with the F of `inc8` or `dec8`, in rows z = 4 and z = 5. -/
theorem incrementAndDecrementOperand : Obligations.IncrementAndDecrementOperand := by
  intro y s
  refine ⟨⟨?incByte, _, _, ?inc, inc8_toNat (readR (r8Of y) s) s.f, inc8_flags (readR (r8Of y) s) s.f⟩,
    ⟨?decByte, _, _, ?dec, dec8_toNat (readR (r8Of y) s) s.f, dec8_flags (readR (r8Of y) s) s.f⟩⟩
  case incByte => rw [encode_selIncR, opcodeOf_eq_ofNat]; simp [Nat.add_comm]
  case decByte => rw [encode_selDecR, opcodeOf_eq_ofNat]; simp [Nat.add_comm]
  case inc => simp only [exec_selIncR, incR_eq, r8Of_eq_ind_iff]
  case dec => simp only [exec_selDecR, decR_eq, r8Of_eq_ind_iff]

/-! ## 16-bit arithmetic (R133, R134, R137) -/

theorem inc16_toNat (v : Word) : (inc16 v).toNat = (v.toNat + 1) % 65536 := BitVec.toNat_add v 1#16

theorem dec16_toNat (v : Word) : ((dec16 v).toNat : Int) = ((v.toNat : Int) - 1) % 65536 := by
  have sub : (dec16 v).toNat = (65536 - 1 + v.toNat) % 65536 := BitVec.toNat_sub v 1#16
  rw [sub]
  omega

theorem incRp_eq (r : Rp) (s : State) : incRp r s =
    { writeRp r (inc16 (readRp r s)) s with pc := s.pc + 1#16, t := 8 } := by
  simp only [incRp, advance, writeRp_pc, cycIncDecRp]

theorem decRp_eq (r : Rp) (s : State) : decRp r s =
    { writeRp r (dec16 (readRp r s)) s with pc := s.pc + 1#16, t := 8 } := by
  simp only [decRp, advance, writeRp_pc, cycIncDecRp]

/-- Settles O40: the pair is rewritten with its old value moved by one, which wraps at 16 bits. -/
theorem incrementAndDecrementPair : Obligations.IncrementAndDecrementPair := by
  intro r s
  refine ⟨_, _, inc16_toNat (readRp r s), dec16_toNat (readRp r s), ?up, ?down⟩
  case up => rw [exec_selIncRp, incRp_eq]
  case down => rw [exec_selDecRp, decRp_eq]

theorem and_low_nibble_toNat (v : Word) : (v &&& 0xF#16).toNat = v.toNat % 16 := by
  rw [BitVec.toNat_and]
  exact Nat.and_two_pow_sub_one_eq_mod _ 4

theorem and_low_byte_toNat (v : Word) : (v &&& 0xFF#16).toNat = v.toNat % 256 := by
  rw [BitVec.toNat_and]
  exact Nat.and_two_pow_sub_one_eq_mod _ 8

theorem and_low_12_toNat (v : Word) : (v &&& 0xFFF#16).toNat = v.toNat % 4096 := by
  rw [BitVec.toNat_and]
  exact Nat.and_two_pow_sub_one_eq_mod _ 12

theorem add16_toNat (a b : Word) : (add16 a b).1.toNat = (a.toNat + b.toNat) % 65536 := BitVec.toNat_ofNat _ _

/-- ADD HL,rp keeps Z and takes N, H and C from the sum. -/
theorem addHl_flags (a b : Word) (f : Byte) :
    FlagsAre (flags (flagZ f) (flagN (add16 a b).2) (flagH (add16 a b).2) (flagC (add16 a b).2)) (Zset f) False
      (a.toNat % 4096 + b.toNat % 4096 > 0xFFF) (a.toNat + b.toNat > 0xFFFF) := by
  simp only [add16, and_low_12_toNat]
  simp [flagZ_iff]

/-- Settles O41: HL takes the sum of `add16`, and F its flags beside the old Z. -/
theorem addPairToHL : Obligations.AddPairToHL := by
  intro r s
  exact ⟨_, _, exec_selAddHl r s, add16_toNat (readRp .hl s) (readRp r s), addHl_flags (readRp .hl s) (readRp r s) s.f⟩

/-- The sign extension of a byte, as a number: the byte as a signed number, modulo 65536 (R121). -/
theorem sext16_toNat (d : Byte) : ((sext16 d).toNat : Int) = d.toInt % 65536 := by
  revert d; decide

theorem add_sext16_toNat (v : Word) (d : Byte) :
    ((v + sext16 d).toNat : Int) = ((v.toNat : Int) + d.toInt) % 65536 := by
  have sum : ((v + sext16 d).toNat : Int) = ((v.toNat : Int) + (sext16 d).toNat) % 65536 := by
    rw [BitVec.toNat_add]; norm_cast
  rw [sum, sext16_toNat, Int.add_emod_emod]

theorem addsp_byte_flags (v : Word) (d : Byte) : FlagsAre (addsp .byte v d).2 False False
    (v.toNat % 16 + d.toNat % 16 > 0xF) (v.toNat % 256 + d.toNat > 0xFF) := by
  simp only [addsp, and_low_nibble_toNat, and_low_byte_toNat, nibble_eq_mod]
  simp

/-- Settles O42: both take the sum and the F of `addsp` at the default of `SPD_FLAGS`. -/
theorem signedDisplacementAdds : Obligations.SignedDisplacementAdds := by
  intro d s
  exact ⟨_, _, add_sext16_toNat s.sp d, addsp_byte_flags s.sp d, rfl, rfl⟩

/-! ## Rotates (R138 to R146) -/

/-- A byte with the carry of F as its bit 0. -/
theorem carryByte_eq (f : Byte) : carryByte f = if f.getLsbD 4 then 1#8 else 0#8 := by
  unfold carryByte carryIn flagC
  cases f.getLsbD 4 <;> rfl

/-- Each entry of the table `rot` is the rotate as arithmetic; F enters through its carry alone. -/
theorem rotApply_toNat (op : RotOp) (v f : Byte) : (rotApply op v f).1.toNat = rotated op v.toNat (cin f) := by
  cases op with
  | rl =>
    simp only [rotApply, rl, carryByte_eq, rotated, cin]
    cases f.getLsbD 4 <;> (revert v; decide)
  | rr =>
    simp only [rotApply, rr, carryByte_eq, rotated, cin]
    cases f.getLsbD 4 <;> (revert v; decide)
  | rlc | rrc | sla | sra | swap | srl =>
    simp only [rotApply, rlc, rrc, sla, sra, swap, srl, rotated]
    revert v; decide

/-- The carry of each entry is the bit it shifts out. -/
theorem rotApply_carry (op : RotOp) (v f : Byte) : flagC (rotApply op v f).2 = true ↔ shiftedOut op v.toNat = 1 := by
  cases op <;> simp only [rotApply, rlc, rrc, rl, rr, sla, sra, swap, srl, shiftFlags, flagC_flags, shiftedOut] <;>
    (revert v; decide)

theorem rotApply_flags (op : RotOp) (v f : Byte) :
    FlagsAre (rotApply op v f).2 ((rotApply op v f).1 = 0#8) False False (shiftedOut op v.toNat = 1) := by
  have shape : (rotApply op v f).2 = shiftFlags (rotApply op v f).1 (flagC (rotApply op v f).2) := by
    cases op <;> simp only [rotApply, rlc, rrc, rl, rr, sla, sra, swap, srl, shiftFlags, flagC_flags]
  rw [shape, shiftFlags, flagsAre_flags_iff, rotApply_carry]
  simp

/-- Settles O43: the four rows run `rotAccumulator`, the rotate with Z, N and H forced to zero. -/
theorem accumulatorRotatesClearZ : Obligations.AccumulatorRotatesClearZ := by
  intro s p listed
  have next : exec p.1 s = .next (rotateA p.2 s) := by
    simp only [List.mem_cons, List.not_mem_nil, or_false] at listed
    rcases listed with rfl | rfl | rfl | rfl <;> rfl
  refine ⟨_, _, next, rotApply_toNat p.2 s.a s.f, ?flags⟩
  case flags => simp [rotAccumulator, rotApply_carry]

/-! ## CPL, SCF and CCF (R151 to R153) -/

theorem complement_toNat (a : Byte) : (a ^^^ 0xFF#8).toNat = 255 - a.toNat := by
  revert a; decide

/-- Settles O46: each writes F through `flags`, with the flags it does not list taken from the old F. -/
theorem complementAndCarryOperations : Obligations.ComplementAndCarryOperations := by
  intro s
  refine ⟨_, _, _, _, rfl, complement_toNat s.a, ?cpl, rfl, ?scf, rfl, ?ccf⟩
  case cpl => simp [cpl, flagZ_iff, flagC_iff]
  case scf => simp [scf, flagZ_iff]
  case ccf => simp [ccf, flagZ_iff, ← flagC_iff]

/-! ## The decimal adjust (R150) -/

/-- Whether `daa` corrects the low digit. -/
def correctsLow (a f : Byte) : Bool := flagH f || (!flagN f && decide (nibble a > 0x09))

/-- Whether `daa` corrects the high digit. -/
def correctsHigh (a f : Byte) : Bool := flagC f || (!flagN f && decide (a.toNat > 0x99))

/-- The offset that `daa` adds or subtracts. -/
def daaOffset (a f : Byte) : Byte :=
  (if correctsLow a f then 0x06#8 else 0#8) ||| (if correctsHigh a f then 0x60#8 else 0#8)

theorem daa_eq (a f : Byte) : daa a f =
    (if flagN f then a - daaOffset a f else a + daaOffset a f,
      flags ((if flagN f then a - daaOffset a f else a + daaOffset a f) == 0) (flagN f) false (correctsHigh a f)) := rfl

theorem correctsLow_iff (a f : Byte) : correctsLow a f = true ↔ daaLow a f := by
  simp [correctsLow, daaLow, nibble_eq_mod, ← flagH_iff, ← flagN_iff]

theorem correctsHigh_iff (a f : Byte) : correctsHigh a f = true ↔ daaHigh a f := by
  simp [correctsHigh, daaHigh, ← flagC_iff, ← flagN_iff]

theorem daaOffset_toNat (a f : Byte) : (daaOffset a f).toNat =
    (if correctsLow a f then 0x06 else 0) + (if correctsHigh a f then 0x60 else 0) := by
  unfold daaOffset
  cases correctsLow a f <;> cases correctsHigh a f <;> rfl

theorem daa_toNat_add {f : Byte} (adds : ¬ Nset f) (a : Byte) :
    ((daa a f).1.toNat : Int) = ((a.toNat : Int) + (daaOffset a f).toNat) % 256 := by
  have clear : ¬ flagN f = true := adds
  simp only [daa_eq, if_neg clear, BitVec.toNat_add]
  norm_cast

theorem daa_toNat_sub {f : Byte} (subtracts : Nset f) (a : Byte) :
    ((daa a f).1.toNat : Int) = ((a.toNat : Int) - (daaOffset a f).toNat) % 256 := by
  have set : flagN f = true := subtracts
  simp only [daa_eq, if_pos set]
  exact toNat_sub_eq_emod a (daaOffset a f)

theorem daa_flags (a f : Byte) : FlagsAre (daa a f).2 ((daa a f).1 = 0#8) (Nset f) False (daaHigh a f) := by
  rw [daa_eq]
  simp [correctsHigh_iff, ← flagN_iff]

/-- Settles O44: the offset is the sum of its two parts, each applied on its own condition. -/
theorem decimalAdjustAlgorithm : Obligations.DecimalAdjustAlgorithm := by
  intro s
  refine ⟨_, _, (daaOffset s.a s.f).toNat, rfl, ?_, ?_, ?_, ?_, fun adds => daa_toNat_add adds s.a,
    fun subtracts => daa_toNat_sub subtracts s.a, daa_flags s.a s.f⟩ <;>
  rw [← correctsLow_iff, ← correctsHigh_iff, daaOffset_toNat] <;> rintro ⟨low, high⟩
  · rw [if_pos low, if_pos high]
  · rw [if_pos low, if_neg high]
  · rw [if_neg low, if_pos high]
  · rw [if_neg low, if_neg high]

/-- The byte with the decimal digits `h` and `l`. -/
structure Digits (v : Byte) (h l : Nat) : Prop where
  toNat_eq : v.toNat = 16 * h + l
  high_le : h ≤ 9
  low_le : l ≤ 9

theorem exists_digits {v : Byte} (bcd : isBcd v) : ∃ h l, Digits v h l := by
  obtain ⟨low, high⟩ := bcd
  exact ⟨v.toNat / 16, v.toNat % 16, by omega, high, low⟩

section
variable {v : Byte} {h l : Nat} (digits : Digits v h l)
include digits

theorem Digits.isBcd : isBcd v := by
  obtain ⟨eq, high, low⟩ := digits
  constructor <;> omega

theorem Digits.bcdValue_eq : bcdValue v = 10 * h + l := by
  obtain ⟨eq, high, low⟩ := digits
  unfold bcdValue
  omega

end

theorem decimal_of_digits {v : Byte} (h l : Nat) {n : Nat} (digits : Digits v h l) (value : 10 * h + l = n) :
    isBcd v ∧ bcdValue v = n := ⟨digits.isBcd, digits.bcdValue_eq.trans value⟩

/-- DAA after ADD of two packed-decimal bytes: a digit sum is corrected exactly when it carries. -/
theorem daa_add8 {a b : Byte} (ha : isBcd a) (hb : isBcd b) :
    isBcd (daa (add8 a b).1 (add8 a b).2).1 ∧
      bcdValue (daa (add8 a b).1 (add8 a b).2).1 = (bcdValue a + bcdValue b) % 100 ∧
      (daaHigh (add8 a b).1 (add8 a b).2 ↔ bcdValue a + bcdValue b > 99) := by
  obtain ⟨ah, al, da⟩ := exists_digits ha
  obtain ⟨bh, bl, db⟩ := exists_digits hb
  obtain ⟨sum, -, hn, hh, hc, -⟩ := add8_leaves a b 0
  have adds : ¬ Nset (add8 a b).2 := hn.1
  have result := daa_toNat_add adds (add8 a b).1
  rw [daaOffset_toNat] at result
  obtain ⟨ea, ha9, la9⟩ := da
  obtain ⟨eb, hb9, lb9⟩ := db
  rw [ea, eb] at sum hh hc
  have low : correctsLow (add8 a b).1 (add8 a b).2 = true ↔ al + bl > 9 := by
    simp only [correctsLow_iff, daaLow, adds, Hset, hh, not_false_eq_true, true_and]
    omega
  have high : correctsHigh (add8 a b).1 (add8 a b).2 = true ↔ 10 * (ah + bh) + (al + bl) > 99 := by
    simp only [correctsHigh_iff, daaHigh, adds, Cset, hc, not_false_eq_true, true_and]
    omega
  rw [← correctsHigh_iff, high, Digits.bcdValue_eq ⟨ea, ha9, la9⟩, Digits.bcdValue_eq ⟨eb, hb9, lb9⟩]
  clear hh hc
  refine and_assoc.1 ⟨?_, by omega⟩
  cases lo : correctsLow (add8 a b).1 (add8 a b).2 <;> cases hi : correctsHigh (add8 a b).1 (add8 a b).2 <;>
    simp only [lo, hi, true_iff, false_iff, Bool.false_eq_true, if_true, if_false] at low high result
  · exact decimal_of_digits (ah + bh) (al + bl) (by constructor <;> omega) (by omega)
  · exact decimal_of_digits (ah + bh - 10) (al + bl) (by constructor <;> omega) (by omega)
  · exact decimal_of_digits (ah + bh + 1) (al + bl - 10) (by constructor <;> omega) (by omega)
  · exact decimal_of_digits (ah + bh - 9) (al + bl - 10) (by constructor <;> omega) (by omega)

/-- DAA after SUB of two packed-decimal bytes: a digit difference is corrected exactly when it borrows. -/
theorem daa_sub8 {a b : Byte} (ha : isBcd a) (hb : isBcd b) :
    isBcd (daa (sub8 a b).1 (sub8 a b).2).1 ∧
      bcdValue (daa (sub8 a b).1 (sub8 a b).2).1 = (bcdValue a + 100 - bcdValue b) % 100 ∧
      (daaHigh (sub8 a b).1 (sub8 a b).2 ↔ bcdValue a < bcdValue b) := by
  obtain ⟨ah, al, da⟩ := exists_digits ha
  obtain ⟨bh, bl, db⟩ := exists_digits hb
  obtain ⟨difference, -, hn, hh, hc, -⟩ := sub8_leaves a b 0
  have subtracts : Nset (sub8 a b).2 := hn.2 trivial
  have result := daa_toNat_sub subtracts (sub8 a b).1
  rw [daaOffset_toNat] at result
  obtain ⟨ea, ha9, la9⟩ := da
  obtain ⟨eb, hb9, lb9⟩ := db
  rw [ea, eb] at difference hh hc
  have low : correctsLow (sub8 a b).1 (sub8 a b).2 = true ↔ al < bl := by
    simp only [correctsLow_iff, daaLow, subtracts, Hset, hh, not_true_eq_false, false_and, or_false]
    omega
  have high : correctsHigh (sub8 a b).1 (sub8 a b).2 = true ↔ 10 * ah + al < 10 * bh + bl := by
    simp only [correctsHigh_iff, daaHigh, subtracts, Cset, hc, not_true_eq_false, false_and, or_false]
    omega
  rw [← correctsHigh_iff, high, Digits.bcdValue_eq ⟨ea, ha9, la9⟩, Digits.bcdValue_eq ⟨eb, hb9, lb9⟩]
  clear hh hc
  refine and_assoc.1 ⟨?_, by omega⟩
  cases lo : correctsLow (sub8 a b).1 (sub8 a b).2 <;> cases hi : correctsHigh (sub8 a b).1 (sub8 a b).2 <;>
    simp only [lo, hi, true_iff, false_iff, Bool.false_eq_true, if_true, if_false] at low high result
  · exact decimal_of_digits (ah - bh) (al - bl) (by constructor <;> omega) (by omega)
  · exact decimal_of_digits (ah + 10 - bh) (al - bl) (by constructor <;> omega) (by omega)
  · exact decimal_of_digits (ah - bh - 1) (al + 10 - bl) (by constructor <;> omega) (by omega)
  · exact decimal_of_digits (ah + 9 - bh) (al + 10 - bl) (by constructor <;> omega) (by omega)

/-- Settles O45: DAA on the A and F that ADD or SUB leaves, whatever operand the second byte comes from. -/
theorem decimalAdjustCorrectsBcdArithmetic : Obligations.DecimalAdjustCorrectsBcdArithmetic := by
  intro z s ha hb
  obtain ⟨sumDigits, sum, sumCarry⟩ := daa_add8 ha hb
  obtain ⟨diffDigits, diff, borrow⟩ := daa_sub8 ha hb
  obtain ⟨-, -, addH, addC, -⟩ := daa_flags (add8 s.a (readR z s)).1 (add8 s.a (readR z s)).2
  obtain ⟨-, -, subH, subC, -⟩ := daa_flags (sub8 s.a (readR z s)).1 (sub8 s.a (readR z s)).2
  exact ⟨⟨_, _, exec_selAluR .add z s, rfl, sumDigits, sum, addC.trans sumCarry, addH.1⟩,
    ⟨_, _, exec_selAluR .sub z s, rfl, diffDigits, diff, subC.trans borrow, subH.1⟩⟩

end Sys2Proof.Machine
end

section
/-! Proofs of the family `other`, part 10: the CB-prefixed instructions (42_cb_prefixed.md R190 to R201). -/

namespace Sys2Proof.Machine

open Sys2Proof.Claims

/-! ## The sub-opcodes (30_encoding.md R98) -/

theorem encode_selRot (op : RotOp) (z : BitVec 3) :
    encode (selRot op (r8Of z)) = [0xCB#8, BitVec.ofNat 8 (8 * rotIndex op + z.toNat)] := by
  cases op <;> (revert z; decide)

theorem encode_selBit (y z : BitVec 3) :
    encode (selBit y.toFin (r8Of z)) = [0xCB#8, BitVec.ofNat 8 (0x40 + 8 * y.toNat + z.toNat)] := by
  revert y z; decide

theorem encode_selRes (y z : BitVec 3) :
    encode (selRes y.toFin (r8Of z)) = [0xCB#8, BitVec.ofNat 8 (0x80 + 8 * y.toNat + z.toNat)] := by
  revert y z; decide

theorem encode_selSet (y z : BitVec 3) :
    encode (selSet y.toFin (r8Of z)) = [0xCB#8, BitVec.ofNat 8 (0xC0 + 8 * y.toNat + z.toNat)] := by
  revert y z; decide

/-! ## The states they leave -/

theorem rotateR_eq (op : RotOp) (r : R8) (s : State) : rotateR op r s =
    { writeR r (rotApply op (readR r s) s.f).1 s with
      f := (rotApply op (readR r s) s.f).2, pc := s.pc + 2#16, t := if r = .ind then 16 else 8 } := by
  simp only [rotateR, finishCb, advance, writeR_setF, writeR_pc, regOrMem, cycCbMem, cycCbR]

theorem bitR_eq (i : Fin 8) (r : R8) (s : State) : bitR i r s =
    { s with f := bitFlags i (readR r s) s.f, pc := s.pc + 2#16, t := if r = .ind then 16 else 8 } := rfl

theorem resR_eq (i : Fin 8) (r : R8) (s : State) : resR i r s =
    { writeR r (resBit i (readR r s)) s with pc := s.pc + 2#16, t := if r = .ind then 16 else 8 } := by
  simp only [resR, finishCb, advance, writeR_pc, regOrMem, cycCbMem, cycCbR]

theorem setR_eq (i : Fin 8) (r : R8) (s : State) : setR i r s =
    { writeR r (setBit i (readR r s)) s with pc := s.pc + 2#16, t := if r = .ind then 16 else 8 } := by
  simp only [setR, finishCb, advance, writeR_pc, regOrMem, cycCbMem, cycCbR]

/-- Settles O47: each row writes the rotate of its operand and the F of the table `rot`. -/
theorem prefixedRotatesAndShifts : Obligations.PrefixedRotatesAndShifts := by
  intro op z s
  refine ⟨encode_selRot op z, _, _, ?next, rotApply_toNat op _ s.f, rotApply_flags op _ s.f⟩
  case next => simp only [exec_selRot, rotateR_eq, r8Of_eq_ind_iff]

theorem bitFlags_leaves (i : Fin 8) (v f : Byte) :
    FlagsAre (bitFlags i v f) (v.getLsbD i = false) False True (Cset f) := by
  simp [bitFlags, testbit, flagC_iff]

/-- Settles O48: BIT writes F alone. -/
theorem prefixedBitTest : Obligations.PrefixedBitTest := by
  intro y z s
  refine ⟨encode_selBit y z, _, ?next, bitFlags_leaves y.toFin (readR (r8Of z) s) s.f⟩
  case next => simp only [exec_selBit, bitR_eq, r8Of_eq_ind_iff]

/-- The mask of bit `y` has that bit alone. -/
theorem getLsbD_one_shiftLeft (y : Nat) {i : Nat} (lt : i < 8) : (1#8 <<< y).getLsbD i = decide (i = y) := by
  rw [Bool.eq_iff_iff]
  simp [lt]
  omega

/-- RES clears its bit and no other (R148). -/
theorem getLsbD_resBit (y : Fin 8) (v : Byte) {i : Nat} (lt : i < 8) :
    (resBit y v).getLsbD i = if i = y then false else v.getLsbD i := by
  simp only [resBit, clearbit, BitVec.getLsbD_and, BitVec.getLsbD_not, getLsbD_one_shiftLeft y lt]
  by_cases same : i = y <;> simp [same, lt]

/-- SET sets its bit and no other (R149). -/
theorem getLsbD_setBit (y : Fin 8) (v : Byte) {i : Nat} (lt : i < 8) :
    (setBit y v).getLsbD i = if i = y then true else v.getLsbD i := by
  simp only [setBit, setbit, BitVec.getLsbD_or, getLsbD_one_shiftLeft y lt]
  by_cases same : i = y <;> simp [same]

/-- Settles O49: RES and SET write their operand with one bit changed, and leave F. -/
theorem prefixedResetAndSetBit : Obligations.PrefixedResetAndSetBit := by
  intro y z s
  refine ⟨_, _, fun i lt => getLsbD_resBit y.toFin _ lt, fun i lt => getLsbD_setBit y.toFin _ lt, encode_selRes y z,
    ?reset, encode_selSet y z, ?set⟩
  case reset => simp only [exec_selRes, resR_eq, r8Of_eq_ind_iff]
  case set => simp only [exec_selSet, setR_eq, r8Of_eq_ind_iff]

/-- Settles O50: the row of the 0xCB byte and the CB instruction of a sub-opcode run one operation. -/
theorem prefixRowRunsTheSubOpcode : Obligations.PrefixRowRunsTheSubOpcode :=
  fun b1 b2 s => ⟨prefixed b1 s, rfl, prefixed_pc b1 s, decodeWindow_cb b1 b2, exec_decodeCb b1 s⟩

/-! ## Complementary rotates (40_bitops_alu.md R154) -/

/-- The operand after a rotate of it, (HL) included: HL is not changed by a write to the byte at HL. -/
theorem readR_rotateR (op : RotOp) (r : R8) (s : State) :
    readR r (rotateR op r s) = (rotApply op (readR r s) s.f).1 := by
  have later : readR r (rotateR op r s) = readR r (writeR r (rotApply op (readR r s) s.f).1 s) := by
    rw [rotateR_eq]
    cases r <;> rfl
  rw [later, readR_writeR]

theorem rotateR_f (op : RotOp) (r : R8) (s : State) : (rotateR op r s).f = (rotApply op (readR r s) s.f).2 := by
  rw [rotateR_eq]

/-- The second rotate takes back the first: through carry, the bit that left comes back from C. -/
theorem rotApply_complementary {p : RotOp × RotOp}
    (h : p ∈ [(RotOp.rlc, RotOp.rrc), (.rrc, .rlc), (.rl, .rr), (.rr, .rl), (.swap, .swap)]) (v f : Byte) :
    (rotApply p.2 (rotApply p.1 v f).1 (rotApply p.1 v f).2).1 = v := by
  simp only [List.mem_cons, List.not_mem_nil, or_false] at h
  rcases h with rfl | rfl | rfl | rfl | rfl
  · simp only [rotApply, rlc, rrc]; revert v; decide
  · simp only [rotApply, rlc, rrc]; revert v; decide
  · simp only [rotApply, rl, rr, carryByte, carryIn, shiftFlags, flagC_flags]
    cases flagC f <;> (revert v; decide)
  · simp only [rotApply, rl, rr, carryByte, carryIn, shiftFlags, flagC_flags]
    cases flagC f <;> (revert v; decide)
  · simp only [rotApply, swap]; revert v; decide

/-- Settles O51: the second instruction reads what the first wrote, with the F that it left. -/
theorem complementaryRotatesRestoreTheOperand : Obligations.ComplementaryRotatesRestoreTheOperand := by
  intro z s s1 s2 p listed first second
  cases (exec_selRot p.1 z s).symm.trans first
  cases (exec_selRot p.2 z _).symm.trans second
  rw [readR_rotateR, readR_rotateR, rotateR_f]
  exact rotApply_complementary listed (readR z s) s.f

end Sys2Proof.Machine
end

section
/-! Proofs of the family `other`, part 11: control transfer and the opcodes that only advance. -/

namespace Sys2Proof.Machine

open Sys2Proof.Claims

/-! ## Jumps (43_x0_block.md R223, R224, 46_x3_block.md R308, R310, R311) -/

theorem jrTarget_toNat (d : Byte) (s : State) :
    ((jrTarget d s).toNat : Int) = ((s.pc.toNat : Int) + 2 + d.toInt) % 65536 := by
  have base : ((s.pc + 2#16).toNat : Int) = ((s.pc.toNat : Int) + 2) % 65536 := by
    rw [BitVec.toNat_add]; norm_cast
  rw [jrTarget, add_sext16_toNat, base, Int.emod_add_emod]

/-- Settles O52: both outcomes are jumps, the taken one to the sum and the untaken one past the instruction. -/
theorem relativeJumps : Obligations.RelativeJumps := by
  intro cc d s
  refine ⟨jrTarget d s, jrTarget_toNat d s, rfl, fun taken => ?taken, fun untaken => ?untaken⟩
  case taken => rw [exec_selJrCc, jrCc, if_pos taken]; rfl
  case untaken => rw [exec_selJrCc, jrCc, if_neg (Bool.not_eq_true _ ▸ untaken)]; rfl

/-- Settles O53: JP nn and JP HL are their meanings, JP cc splits on its condition. -/
theorem absoluteJumps : Obligations.AbsoluteJumps := by
  intro cc nn s
  refine ⟨rfl, rfl, fun taken => ?taken, fun untaken => ?untaken⟩
  case taken => rw [exec_selJpCc, jpCc, if_pos taken]; rfl
  case untaken => rw [exec_selJpCc, jpCc, if_neg (Bool.not_eq_true _ ▸ untaken)]; rfl

/-- Settles O54: each condition is one flag or its complement, and y and y - 4 have the same low two bits. -/
theorem conditionsTestTheirFlag : Obligations.ConditionsTestTheirFlag := by
  intro s
  refine ⟨?nz, Iff.rfl, ?nc, Iff.rfl, rfl, rfl, rfl, rfl, by decide⟩
  case nz => simp [condition, ccOf, ← flagZ_iff]
  case nc => simp [condition, ccOf, ← flagC_iff]

/-! ## Calls and returns (46_x3_block.md R300, R306, R307, R314, R320, R329) -/

theorem call_eq (nn : Word) (s : State) : call nn s =
    { memWrite16 (s.sp - 2#16) (s.pc + 3#16) s with sp := s.sp - 2#16, pc := nn, t := 24 } := rfl

theorem rst_eq (vector : Word) (s : State) : rst vector s =
    { memWrite16 (s.sp - 2#16) (s.pc + 1#16) s with sp := s.sp - 2#16, pc := vector, t := 16 } := rfl

/-- Settles O55: a taken CALL cc is CALL, and RST is a call of one byte. -/
theorem callsPushTheReturnAddress : Obligations.CallsPushTheReturnAddress := by
  intro cc nn y s
  refine ⟨rfl, fun taken => ?taken, fun untaken => ?untaken, ?rst⟩
  case taken => rw [exec_selCallCc, callCc, if_pos taken, call_eq]
  case untaken => rw [exec_selCallCc, callCc, if_neg (Bool.not_eq_true _ ▸ untaken)]; rfl
  case rst => rw [exec_selRst, rst_eq]

/-- Settles O56: the target is the word at SP, low byte first. -/
theorem returnsPopTheProgramCounter : Obligations.ReturnsPopTheProgramCounter := by
  intro cc s
  refine ⟨popValue s, compose_toNat _ _, rfl, rfl, fun taken => ?taken, fun untaken => ?untaken⟩
  case taken => rw [exec_selRetCc, retCc, if_pos taken]; rfl
  case untaken => rw [exec_selRetCc, retCc, if_neg (Bool.not_eq_true _ ▸ untaken)]; rfl

/-- A call of any kind is a push of the address after it and a jump. -/
theorem exec_call {i : Instr} {cc : Cc} {nn : Word} {y : BitVec 3} {s s1 : State}
    (calls : i = .callNn nn ∨ (i = selCallCc cc nn ∧ condition cc s = true) ∨ i = selRst y)
    (h : exec i s = .next s1) : ∃ target cycles,
      s1 = jumpTo target cycles (push16 (s.pc + BitVec.ofNat 16 (encode i).length) s) := by
  rcases calls with rfl | ⟨rfl, taken⟩ | rfl
  · cases h
    exact ⟨_, _, rfl⟩
  · have len : (encode (selCallCc cc nn)).length = 3 := by cases cc <;> rfl
    rw [exec_selCallCc, callCc, if_pos taken] at h
    cases h
    rw [len]
    exact ⟨_, _, rfl⟩
  · have len : (encode (selRst y)).length = 1 := by rw [encode_selRst]; rfl
    rw [exec_selRst] at h
    cases h
    rw [len]
    exact ⟨_, _, rfl⟩

/-- RET and RETI run one operation (log 15). -/
theorem exec_return {r : Instr} (h : r ∈ [Instr.ret, .reti]) (s : State) : exec r s = .next (ret cycRet s) := by
  simp only [List.mem_cons, List.not_mem_nil, or_false] at h
  rcases h with rfl | rfl <;> rfl

/-- Settles O57: the return pops the word that the call pushed, and SP comes back with it. -/
theorem returnAfterCallResumes : Obligations.ReturnAfterCallResumes := by
  intro i cc nn y s s1 calls called r returns
  obtain ⟨target, cycles, rfl⟩ := exec_call calls called
  refine ⟨_, exec_return returns _, ?pc, ?sp⟩
  case pc => exact popValue_push16 _ s
  case sp => exact popState_push16_sp (s.pc + BitVec.ofNat 16 (encode i).length) s

/-! ## Opcodes that only advance (R222, R271, R312, R313) -/

/-- Settles O59: each meaning is an advance by the length of the opcode, two for STOP. -/
theorem systemOpcodesOnlyAdvance : Obligations.SystemOpcodesOnlyAdvance :=
  fun s => ⟨Row.stop.exec_eq s, Row.halt.exec_eq s, Row.di.exec_eq s, Row.ei.exec_eq s⟩

end Sys2Proof.Machine
end
